-- ==== Sys2Proof/Word.lean ====
section
/-!
DEFINITION. The two widths of the machine (00_scope.md R8, R10): the byte and the 16-bit word, and the size of the
address space. Arithmetic on them is `BitVec`'s own, which wraps modulo 2^8 and 2^16 as R10's `+8`, `-8`, `+16`, `-16` do.
-/

namespace Sys2Proof

/-- A `u8` (R10): the contents of a byte register or of a memory byte. -/
abbrev Byte := BitVec 8

/-- A `u16` (R10): PC, SP, a register pair, an address. -/
abbrev Word := BitVec 16

/-- The number of bytes of memory, and the first index that is no address (R8, R60). -/
abbrev memSize : Nat := 65536

end Sys2Proof
end

