-- ==== Sys2Proof/Machine/Term.lean ====
section
/-!
DEFINITION. The decoded term of 30_encoding.md R91 to R93: register names, the seven Slots and the `Opcode` variants,
and the failures of 60_exceptions.md R280. Every row of the opcode table is one such term (`Instr.term`, in Decode.lean);
the type also has terms no encoding produces, whose outcomes R159 and R187 give.
-/

namespace Sys2Proof

/-- The byte registers (R91). -/
inductive Reg8 where
  | a | b | c | d | e | h | l | f
  deriving DecidableEq, Repr

/-- The 16-bit registers: the pair views AF, BC, DE, HL and the true register SP (R91). -/
inductive Reg16 where
  | af | bc | de | hl | sp
  deriving DecidableEq, Repr

/-- The registers an `AddrRegister` slot names; `c` means the address 0xFF00 + C (R91). -/
inductive IndReg where
  | bc | de | hl | c
  deriving DecidableEq, Repr

/-- An operand's location descriptor: the addressing-mode multiplexer's select value (R92). -/
inductive Slot where
  | register8 (r : Reg8)
  | register16 (p : Reg16)
  | addrRegister (i : IndReg)
  | addr8 (n : Byte)
  | addr16 (a : Word)
  | data8 (n : Byte)
  | data16 (n : Word)
  deriving DecidableEq, Repr

/-- The decoded instruction, independent of its byte encoding (R93). -/
inductive Opcode where
  | nop
  | halt
  | ret
  | load (dst src : Slot)
  | call (target : Word)
  | inc (s : Slot)
  | dec (s : Slot)
  | cp (s : Slot)
  | sub (s : Slot)
  | ldInc (r : Reg8)
  | ldDec (r : Reg8)
  | rla
  | rl (s : Slot)
  | push (p : Reg16)
  | pop (p : Reg16)
  | xor (s : Slot)
  | complBit (n : Fin 8) (s : Slot)
  | jumpRMemOffset (e : Byte)
  | jumpRNZMemOffset (e : Byte)
  | jumpRZMemOffset (e : Byte)
  deriving DecidableEq, Repr

/-- A failure of one cycle: its kind together with the detail that kind carries (R280, codes 1 to 5). -/
inductive Failure where
  /-- Raised by decode, and by the post-fetch check (R96). Carries no detail. -/
  | endOfStream
  /-- Raised by decode: the first byte is in no table (R120). -/
  | unknownOpcode (byte : Byte)
  /-- Raised by decode: the byte after 0xCB is not in the extended table (R121). -/
  | unknownExtendedOpcode (byte : Byte)
  /-- Raised by execute: F or AF as an operand, or an immediate as a destination (R146, R147). -/
  | illegalOperand (slot : Slot)
  /-- Raised by execute: a term whose operand shape has no semantics (R149). -/
  | unimplementedOpcode (op : Opcode)
  deriving DecidableEq, Repr

/-- The failure of the host's image load, which makes no core (R293, code 6). -/
inductive LoadFailure where
  /-- The image is longer than 65,536 bytes (R77). -/
  | dataTooLarge (length : Nat)
  deriving DecidableEq, Repr

/-- The code of a failure kind (R280). -/
def Failure.code : Failure → Nat
  | .endOfStream => 1
  | .unknownOpcode _ => 2
  | .unknownExtendedOpcode _ => 3
  | .illegalOperand _ => 4
  | .unimplementedOpcode _ => 5

/-- The code of the load failure (R280). -/
def LoadFailure.code : LoadFailure → Nat
  | .dataTooLarge _ => 6

end Sys2Proof
end

