-- ==== Sys2Proof/Syntax.lean ====
section
/-!
DEFINITION. The instructions: one constructor per row of spec/opcode_table.json, in the table's order. Registers are part of
the row, so the only arguments are the immediates: a byte `n` (d8 or the a8 offset), a displacement `e`, or a word `nn`
(d16, a16), which the stream gives little-endian (30_encoding.md R103, R104, R107).
-/

namespace Sys2Proof

/-- An instruction: one row of the opcode table with its immediate. -/
inductive Instr where
  /-- `NOP`, bytes 00 (R260). -/
  | nop
  /-- `LD BC,d16`, bytes 01 l h (R176). -/
  | ldBC_d16 (nn : Word)
  /-- `INC BC`, bytes 03 (R204). -/
  | incBC
  /-- `DEC BC`, bytes 0B (R205). -/
  | decBC
  /-- `LD DE,d16`, bytes 11 l h (R176). -/
  | ldDE_d16 (nn : Word)
  /-- `INC DE`, bytes 13 (R204). -/
  | incDE
  /-- `DEC DE`, bytes 1B (R205). -/
  | decDE
  /-- `LD HL,d16`, bytes 21 l h (R176). -/
  | ldHL_d16 (nn : Word)
  /-- `INC HL`, bytes 23 (R204). -/
  | incHL
  /-- `DEC HL`, bytes 2B (R205). -/
  | decHL
  /-- `LD SP,d16`, bytes 31 l h (R176). -/
  | ldSP_d16 (nn : Word)
  /-- `INC SP`, bytes 33 (R204). -/
  | incSP
  /-- `DEC SP`, bytes 3B (R205). -/
  | decSP
  /-- `LD (BC),A`, bytes 02 (R177). -/
  | ldIndBC_A
  /-- `LD (DE),A`, bytes 12 (R177). -/
  | ldIndDE_A
  /-- `LD A,(BC)`, bytes 0A (R178). -/
  | ldA_IndBC
  /-- `LD A,(DE)`, bytes 1A (R178). -/
  | ldA_IndDE
  /-- `LD (HL+),A`, bytes 22 (R179). -/
  | ldHLinc_A
  /-- `LD (HL-),A`, bytes 32 (R180). -/
  | ldHLdec_A
  /-- `INC B`, bytes 04 (R200). -/
  | incB
  /-- `DEC B`, bytes 05 (R202). -/
  | decB
  /-- `LD B,d8`, bytes 06 n (R174). -/
  | ldB_d8 (n : Byte)
  /-- `INC C`, bytes 0C (R200). -/
  | incC
  /-- `DEC C`, bytes 0D (R202). -/
  | decC
  /-- `LD C,d8`, bytes 0E n (R174). -/
  | ldC_d8 (n : Byte)
  /-- `INC D`, bytes 14 (R200). -/
  | incD
  /-- `DEC D`, bytes 15 (R202). -/
  | decD
  /-- `LD D,d8`, bytes 16 n (R174). -/
  | ldD_d8 (n : Byte)
  /-- `INC E`, bytes 1C (R200). -/
  | incE
  /-- `DEC E`, bytes 1D (R202). -/
  | decE
  /-- `LD E,d8`, bytes 1E n (R174). -/
  | ldE_d8 (n : Byte)
  /-- `INC H`, bytes 24 (R200). -/
  | incH
  /-- `DEC H`, bytes 25 (R202). -/
  | decH
  /-- `LD H,d8`, bytes 26 n (R174). -/
  | ldH_d8 (n : Byte)
  /-- `INC L`, bytes 2C (R200). -/
  | incL
  /-- `DEC L`, bytes 2D (R202). -/
  | decL
  /-- `LD L,d8`, bytes 2E n (R174). -/
  | ldL_d8 (n : Byte)
  /-- `INC (HL)`, bytes 34 (R201). -/
  | incIndHL
  /-- `DEC (HL)`, bytes 35 (R203). -/
  | decIndHL
  /-- `LD (HL),d8`, bytes 36 n (R175). -/
  | ldIndHL_d8 (n : Byte)
  /-- `INC A`, bytes 3C (R200). -/
  | incA
  /-- `DEC A`, bytes 3D (R202). -/
  | decA
  /-- `LD A,d8`, bytes 3E n (R174). -/
  | ldA_d8 (n : Byte)
  /-- `RLA`, bytes 17 (R230). -/
  | rla
  /-- `JR e`, bytes 18 e (R263). -/
  | jr (e : Byte)
  /-- `JR NZ,e`, bytes 20 e (R264). -/
  | jrNZ (e : Byte)
  /-- `JR Z,e`, bytes 28 e (R265). -/
  | jrZ (e : Byte)
  /-- `LD B,B`, bytes 40 (R171). -/
  | ldB_B
  /-- `LD B,C`, bytes 41 (R171). -/
  | ldB_C
  /-- `LD B,D`, bytes 42 (R171). -/
  | ldB_D
  /-- `LD B,E`, bytes 43 (R171). -/
  | ldB_E
  /-- `LD B,H`, bytes 44 (R171). -/
  | ldB_H
  /-- `LD B,L`, bytes 45 (R171). -/
  | ldB_L
  /-- `LD B,(HL)`, bytes 46 (R172). -/
  | ldB_IndHL
  /-- `LD B,A`, bytes 47 (R171). -/
  | ldB_A
  /-- `LD C,B`, bytes 48 (R171). -/
  | ldC_B
  /-- `LD C,C`, bytes 49 (R171). -/
  | ldC_C
  /-- `LD C,D`, bytes 4A (R171). -/
  | ldC_D
  /-- `LD C,E`, bytes 4B (R171). -/
  | ldC_E
  /-- `LD C,H`, bytes 4C (R171). -/
  | ldC_H
  /-- `LD C,L`, bytes 4D (R171). -/
  | ldC_L
  /-- `LD C,(HL)`, bytes 4E (R172). -/
  | ldC_IndHL
  /-- `LD C,A`, bytes 4F (R171). -/
  | ldC_A
  /-- `LD D,B`, bytes 50 (R171). -/
  | ldD_B
  /-- `LD D,C`, bytes 51 (R171). -/
  | ldD_C
  /-- `LD D,D`, bytes 52 (R171). -/
  | ldD_D
  /-- `LD D,E`, bytes 53 (R171). -/
  | ldD_E
  /-- `LD D,H`, bytes 54 (R171). -/
  | ldD_H
  /-- `LD D,L`, bytes 55 (R171). -/
  | ldD_L
  /-- `LD D,(HL)`, bytes 56 (R172). -/
  | ldD_IndHL
  /-- `LD D,A`, bytes 57 (R171). -/
  | ldD_A
  /-- `LD E,B`, bytes 58 (R171). -/
  | ldE_B
  /-- `LD E,C`, bytes 59 (R171). -/
  | ldE_C
  /-- `LD E,D`, bytes 5A (R171). -/
  | ldE_D
  /-- `LD E,E`, bytes 5B (R171). -/
  | ldE_E
  /-- `LD E,H`, bytes 5C (R171). -/
  | ldE_H
  /-- `LD E,L`, bytes 5D (R171). -/
  | ldE_L
  /-- `LD E,(HL)`, bytes 5E (R172). -/
  | ldE_IndHL
  /-- `LD E,A`, bytes 5F (R171). -/
  | ldE_A
  /-- `LD H,B`, bytes 60 (R171). -/
  | ldH_B
  /-- `LD H,C`, bytes 61 (R171). -/
  | ldH_C
  /-- `LD H,D`, bytes 62 (R171). -/
  | ldH_D
  /-- `LD H,E`, bytes 63 (R171). -/
  | ldH_E
  /-- `LD H,H`, bytes 64 (R171). -/
  | ldH_H
  /-- `LD H,L`, bytes 65 (R171). -/
  | ldH_L
  /-- `LD H,(HL)`, bytes 66 (R172). -/
  | ldH_IndHL
  /-- `LD H,A`, bytes 67 (R171). -/
  | ldH_A
  /-- `LD L,B`, bytes 68 (R171). -/
  | ldL_B
  /-- `LD L,C`, bytes 69 (R171). -/
  | ldL_C
  /-- `LD L,D`, bytes 6A (R171). -/
  | ldL_D
  /-- `LD L,E`, bytes 6B (R171). -/
  | ldL_E
  /-- `LD L,H`, bytes 6C (R171). -/
  | ldL_H
  /-- `LD L,L`, bytes 6D (R171). -/
  | ldL_L
  /-- `LD L,(HL)`, bytes 6E (R172). -/
  | ldL_IndHL
  /-- `LD L,A`, bytes 6F (R171). -/
  | ldL_A
  /-- `LD (HL),B`, bytes 70 (R173). -/
  | ldIndHL_B
  /-- `LD (HL),C`, bytes 71 (R173). -/
  | ldIndHL_C
  /-- `LD (HL),D`, bytes 72 (R173). -/
  | ldIndHL_D
  /-- `LD (HL),E`, bytes 73 (R173). -/
  | ldIndHL_E
  /-- `LD (HL),H`, bytes 74 (R173). -/
  | ldIndHL_H
  /-- `LD (HL),L`, bytes 75 (R173). -/
  | ldIndHL_L
  /-- `HALT`, bytes 76 (R261). -/
  | halt
  /-- `LD (HL),A`, bytes 77 (R173). -/
  | ldIndHL_A
  /-- `LD A,B`, bytes 78 (R171). -/
  | ldA_B
  /-- `LD A,C`, bytes 79 (R171). -/
  | ldA_C
  /-- `LD A,D`, bytes 7A (R171). -/
  | ldA_D
  /-- `LD A,E`, bytes 7B (R171). -/
  | ldA_E
  /-- `LD A,H`, bytes 7C (R171). -/
  | ldA_H
  /-- `LD A,L`, bytes 7D (R171). -/
  | ldA_L
  /-- `LD A,(HL)`, bytes 7E (R172). -/
  | ldA_IndHL
  /-- `LD A,A`, bytes 7F (R171). -/
  | ldA_A
  /-- `SUB B`, bytes 90 (R206). -/
  | subB
  /-- `XOR B`, bytes A8 (R212). -/
  | xorB
  /-- `CP B`, bytes B8 (R209). -/
  | cpB
  /-- `SUB C`, bytes 91 (R206). -/
  | subC
  /-- `XOR C`, bytes A9 (R212). -/
  | xorC
  /-- `CP C`, bytes B9 (R209). -/
  | cpC
  /-- `SUB D`, bytes 92 (R206). -/
  | subD
  /-- `XOR D`, bytes AA (R212). -/
  | xorD
  /-- `CP D`, bytes BA (R209). -/
  | cpD
  /-- `SUB E`, bytes 93 (R206). -/
  | subE
  /-- `XOR E`, bytes AB (R212). -/
  | xorE
  /-- `CP E`, bytes BB (R209). -/
  | cpE
  /-- `SUB H`, bytes 94 (R206). -/
  | subH
  /-- `XOR H`, bytes AC (R212). -/
  | xorH
  /-- `CP H`, bytes BC (R209). -/
  | cpH
  /-- `SUB L`, bytes 95 (R206). -/
  | subL
  /-- `XOR L`, bytes AD (R212). -/
  | xorL
  /-- `CP L`, bytes BD (R209). -/
  | cpL
  /-- `SUB (HL)`, bytes 96 (R207). -/
  | subIndHL
  /-- `XOR (HL)`, bytes AE (R213). -/
  | xorIndHL
  /-- `CP (HL)`, bytes BE (R210). -/
  | cpIndHL
  /-- `SUB A`, bytes 97 (R206). -/
  | subA
  /-- `XOR A`, bytes AF (R212). -/
  | xorA
  /-- `CP A`, bytes BF (R209). -/
  | cpA
  /-- `POP BC`, bytes C1 (R252). -/
  | popBC
  /-- `PUSH BC`, bytes C5 (R250). -/
  | pushBC
  /-- `POP DE`, bytes D1 (R252). -/
  | popDE
  /-- `PUSH DE`, bytes D5 (R250). -/
  | pushDE
  /-- `POP HL`, bytes E1 (R252). -/
  | popHL
  /-- `PUSH HL`, bytes E5 (R250). -/
  | pushHL
  /-- `POP AF`, bytes F1 (R253). -/
  | popAF
  /-- `PUSH AF`, bytes F5 (R251). -/
  | pushAF
  /-- `RET`, bytes C9 (R267). -/
  | ret
  /-- `CALL a16`, bytes CD l h (R266). -/
  | call (nn : Word)
  /-- `SUB d8`, bytes D6 n (R208). -/
  | subD8 (n : Byte)
  /-- `LDH (a8),A`, bytes E0 n (R181). -/
  | ldhIndA8_A (n : Byte)
  /-- `LDH A,(a8)`, bytes F0 n (R182). -/
  | ldhA_IndA8 (n : Byte)
  /-- `LD (C),A`, bytes E2 (R183). -/
  | ldIndC_A
  /-- `LD A,(C)`, bytes F2 (R184). -/
  | ldA_IndC
  /-- `LD (a16),A`, bytes EA l h (R185). -/
  | ldIndA16_A (nn : Word)
  /-- `LD A,(a16)`, bytes FA l h (R186). -/
  | ldA_IndA16 (nn : Word)
  /-- `CP d8`, bytes FE n (R211). -/
  | cpD8 (n : Byte)
  /-- `RL B`, bytes CB 10 (R231). -/
  | rlB
  /-- `RL C`, bytes CB 11 (R231). -/
  | rlC
  /-- `RL D`, bytes CB 12 (R231). -/
  | rlD
  /-- `RL E`, bytes CB 13 (R231). -/
  | rlE
  /-- `RL H`, bytes CB 14 (R231). -/
  | rlH
  /-- `RL L`, bytes CB 15 (R231). -/
  | rlL
  /-- `RL (HL)`, bytes CB 16 (R232). -/
  | rlIndHL
  /-- `RL A`, bytes CB 17 (R231). -/
  | rlA
  /-- `BIT 0,B`, bytes CB 40 (R233). -/
  | bit0_B
  /-- `BIT 0,C`, bytes CB 41 (R233). -/
  | bit0_C
  /-- `BIT 0,D`, bytes CB 42 (R233). -/
  | bit0_D
  /-- `BIT 0,E`, bytes CB 43 (R233). -/
  | bit0_E
  /-- `BIT 0,H`, bytes CB 44 (R233). -/
  | bit0_H
  /-- `BIT 0,L`, bytes CB 45 (R233). -/
  | bit0_L
  /-- `BIT 0,(HL)`, bytes CB 46 (R234). -/
  | bit0_IndHL
  /-- `BIT 0,A`, bytes CB 47 (R233). -/
  | bit0_A
  /-- `BIT 1,B`, bytes CB 48 (R233). -/
  | bit1_B
  /-- `BIT 1,C`, bytes CB 49 (R233). -/
  | bit1_C
  /-- `BIT 1,D`, bytes CB 4A (R233). -/
  | bit1_D
  /-- `BIT 1,E`, bytes CB 4B (R233). -/
  | bit1_E
  /-- `BIT 1,H`, bytes CB 4C (R233). -/
  | bit1_H
  /-- `BIT 1,L`, bytes CB 4D (R233). -/
  | bit1_L
  /-- `BIT 1,(HL)`, bytes CB 4E (R234). -/
  | bit1_IndHL
  /-- `BIT 1,A`, bytes CB 4F (R233). -/
  | bit1_A
  /-- `BIT 2,B`, bytes CB 50 (R233). -/
  | bit2_B
  /-- `BIT 2,C`, bytes CB 51 (R233). -/
  | bit2_C
  /-- `BIT 2,D`, bytes CB 52 (R233). -/
  | bit2_D
  /-- `BIT 2,E`, bytes CB 53 (R233). -/
  | bit2_E
  /-- `BIT 2,H`, bytes CB 54 (R233). -/
  | bit2_H
  /-- `BIT 2,L`, bytes CB 55 (R233). -/
  | bit2_L
  /-- `BIT 2,(HL)`, bytes CB 56 (R234). -/
  | bit2_IndHL
  /-- `BIT 2,A`, bytes CB 57 (R233). -/
  | bit2_A
  /-- `BIT 3,B`, bytes CB 58 (R233). -/
  | bit3_B
  /-- `BIT 3,C`, bytes CB 59 (R233). -/
  | bit3_C
  /-- `BIT 3,D`, bytes CB 5A (R233). -/
  | bit3_D
  /-- `BIT 3,E`, bytes CB 5B (R233). -/
  | bit3_E
  /-- `BIT 3,H`, bytes CB 5C (R233). -/
  | bit3_H
  /-- `BIT 3,L`, bytes CB 5D (R233). -/
  | bit3_L
  /-- `BIT 3,(HL)`, bytes CB 5E (R234). -/
  | bit3_IndHL
  /-- `BIT 3,A`, bytes CB 5F (R233). -/
  | bit3_A
  /-- `BIT 4,B`, bytes CB 60 (R233). -/
  | bit4_B
  /-- `BIT 4,C`, bytes CB 61 (R233). -/
  | bit4_C
  /-- `BIT 4,D`, bytes CB 62 (R233). -/
  | bit4_D
  /-- `BIT 4,E`, bytes CB 63 (R233). -/
  | bit4_E
  /-- `BIT 4,H`, bytes CB 64 (R233). -/
  | bit4_H
  /-- `BIT 4,L`, bytes CB 65 (R233). -/
  | bit4_L
  /-- `BIT 4,(HL)`, bytes CB 66 (R234). -/
  | bit4_IndHL
  /-- `BIT 4,A`, bytes CB 67 (R233). -/
  | bit4_A
  /-- `BIT 5,B`, bytes CB 68 (R233). -/
  | bit5_B
  /-- `BIT 5,C`, bytes CB 69 (R233). -/
  | bit5_C
  /-- `BIT 5,D`, bytes CB 6A (R233). -/
  | bit5_D
  /-- `BIT 5,E`, bytes CB 6B (R233). -/
  | bit5_E
  /-- `BIT 5,H`, bytes CB 6C (R233). -/
  | bit5_H
  /-- `BIT 5,L`, bytes CB 6D (R233). -/
  | bit5_L
  /-- `BIT 5,(HL)`, bytes CB 6E (R234). -/
  | bit5_IndHL
  /-- `BIT 5,A`, bytes CB 6F (R233). -/
  | bit5_A
  /-- `BIT 6,B`, bytes CB 70 (R233). -/
  | bit6_B
  /-- `BIT 6,C`, bytes CB 71 (R233). -/
  | bit6_C
  /-- `BIT 6,D`, bytes CB 72 (R233). -/
  | bit6_D
  /-- `BIT 6,E`, bytes CB 73 (R233). -/
  | bit6_E
  /-- `BIT 6,H`, bytes CB 74 (R233). -/
  | bit6_H
  /-- `BIT 6,L`, bytes CB 75 (R233). -/
  | bit6_L
  /-- `BIT 6,(HL)`, bytes CB 76 (R234). -/
  | bit6_IndHL
  /-- `BIT 6,A`, bytes CB 77 (R233). -/
  | bit6_A
  /-- `BIT 7,B`, bytes CB 78 (R233). -/
  | bit7_B
  /-- `BIT 7,C`, bytes CB 79 (R233). -/
  | bit7_C
  /-- `BIT 7,D`, bytes CB 7A (R233). -/
  | bit7_D
  /-- `BIT 7,E`, bytes CB 7B (R233). -/
  | bit7_E
  /-- `BIT 7,H`, bytes CB 7C (R233). -/
  | bit7_H
  /-- `BIT 7,L`, bytes CB 7D (R233). -/
  | bit7_L
  /-- `BIT 7,(HL)`, bytes CB 7E (R234). -/
  | bit7_IndHL
  /-- `BIT 7,A`, bytes CB 7F (R233). -/
  | bit7_A
  deriving DecidableEq, Repr

end Sys2Proof
end

