-- ==== Sys2Proof/WellFormed.lean ====
section
/-!
DEFINITION. The checks on terms, instructions and images. The admitted shapes are the table of 40_executor.md R159, written
positively; the executor's own checks (R146 to R149) are `checkTerm` in Machine/Operands.lean, and a statement says
that the two agree.
-/

namespace Sys2Proof

/-- `r8` of R159: a byte register other than F. -/
def Slot.isR8 : Slot → Bool
  | .register8 r => r != .f
  | _ => false

/-- `p16` of R159: BC, DE, HL or SP. -/
def Slot.isP16 : Slot → Bool
  | .register16 p => p != .af
  | _ => false

/-- `mem` of R159: a memory byte. -/
def Slot.isMem : Slot → Bool
  | .addrRegister _ | .addr8 _ | .addr16 _ => true
  | _ => false

/-- `imm8` of R159. -/
def Slot.isImm8 : Slot → Bool
  | .data8 _ => true
  | _ => false

/-- `imm16` of R159. -/
def Slot.isImm16 : Slot → Bool
  | .data16 _ => true
  | _ => false

/-- The term's operands have an admitted shape (R159). -/
def Opcode.admitted : Opcode → Bool
  | .load dst src =>
    (dst.isR8 || dst.isP16 || dst.isMem) && (src.isR8 || src.isP16 || src.isMem || src.isImm8 || src.isImm16)
  | .inc s | .dec s => s.isR8 || s.isMem || s.isP16
  | .sub s | .cp s | .xor s => s.isR8 || s.isMem || s.isImm8
  | .rl s => s.isR8 || s.isMem
  | .complBit _ s => s.isR8 || s.isMem
  | .ldInc r | .ldDec r => r != .f
  | .push p | .pop p => p == .bc || p == .de || p == .hl
  | .nop | .halt | .ret | .rla | .call _ | .jumpRMemOffset _ | .jumpRNZMemOffset _ | .jumpRZMemOffset _ => true

/-- Every instruction is well formed: the registers belong to the row, and each immediate has exactly the width the
encoding gives it (30_encoding.md R103, R104), so no value of a field lacks an encoding. The checks that can refuse are the
ones on terms and images. -/
def Instr.wellFormed (_ : Instr) : Bool := true

/-- The image fits the memory (20_memory.md R77, conflict C2): at most 65,536 bytes. -/
def imageFits (image : List Byte) : Bool := image.length ≤ memSize

end Sys2Proof
end

