-- ==== Sys2Proof/Decode.lean ====
section
/-!
DEFINITION. The decoder (30_encoding.md R94 to R122), the decoded term of each instruction (R93), the encoder, and the
table words the host asks about. The decoder follows the opcode maps of R117; the encoder follows the bit fields of
R107 to R116, so that the two come from different places of the spec.
-/

namespace Sys2Proof

/-- `h ++ l` (R10, R104): `h` is bits 15:8 and `l` bits 7:0. -/
def joinBytes (h l : Byte) : Word := h ++ l

/-- Bits 15:8 of a word (R10). -/
def hiByte (w : Word) : Byte := w.extractLsb' 8 8

/-- Bits 7:0 of a word, `trunc_8` (R10). -/
def loByte (w : Word) : Byte := w.extractLsb' 0 8

/-! ## The decoder -/

/-- One cell of the primary map of R117. -/
inductive Entry where
  /-- A `-` cell: the byte fails with `UnknownOpcode`. -/
  | unknown
  /-- The 0xCB cell: a second opcode byte follows (R98). -/
  | extended
  /-- Format F1: no immediate (R107). -/
  | one (i : Instr)
  /-- Format F2: one immediate byte (R103). -/
  | two (mk : Byte → Instr)
  /-- Format F3: two immediate bytes, little-endian (R104). -/
  | three (mk : Word → Instr)

/-- The full primary map (R117), row by row: the row is bits 7:4 of the byte. Row 4 to row 7 is the load block of R99,
with HALT at 0x76 (R100). -/
def primaryMap : Nat → List Entry
  | 0x0 => [
      .one .nop, .three .ldBC_d16, .one .ldIndBC_A, .one .incBC,
      .one .incB, .one .decB, .two .ldB_d8, .unknown,
      .unknown, .unknown, .one .ldA_IndBC, .one .decBC,
      .one .incC, .one .decC, .two .ldC_d8, .unknown]
  | 0x1 => [
      .unknown, .three .ldDE_d16, .one .ldIndDE_A, .one .incDE,
      .one .incD, .one .decD, .two .ldD_d8, .one .rla,
      .two .jr, .unknown, .one .ldA_IndDE, .one .decDE,
      .one .incE, .one .decE, .two .ldE_d8, .unknown]
  | 0x2 => [
      .two .jrNZ, .three .ldHL_d16, .one .ldHLinc_A, .one .incHL,
      .one .incH, .one .decH, .two .ldH_d8, .unknown,
      .two .jrZ, .unknown, .unknown, .one .decHL,
      .one .incL, .one .decL, .two .ldL_d8, .unknown]
  | 0x3 => [
      .unknown, .three .ldSP_d16, .one .ldHLdec_A, .one .incSP,
      .one .incIndHL, .one .decIndHL, .two .ldIndHL_d8, .unknown,
      .unknown, .unknown, .unknown, .one .decSP,
      .one .incA, .one .decA, .two .ldA_d8, .unknown]
  | 0x4 => [
      .one .ldB_B, .one .ldB_C, .one .ldB_D, .one .ldB_E,
      .one .ldB_H, .one .ldB_L, .one .ldB_IndHL, .one .ldB_A,
      .one .ldC_B, .one .ldC_C, .one .ldC_D, .one .ldC_E,
      .one .ldC_H, .one .ldC_L, .one .ldC_IndHL, .one .ldC_A]
  | 0x5 => [
      .one .ldD_B, .one .ldD_C, .one .ldD_D, .one .ldD_E,
      .one .ldD_H, .one .ldD_L, .one .ldD_IndHL, .one .ldD_A,
      .one .ldE_B, .one .ldE_C, .one .ldE_D, .one .ldE_E,
      .one .ldE_H, .one .ldE_L, .one .ldE_IndHL, .one .ldE_A]
  | 0x6 => [
      .one .ldH_B, .one .ldH_C, .one .ldH_D, .one .ldH_E,
      .one .ldH_H, .one .ldH_L, .one .ldH_IndHL, .one .ldH_A,
      .one .ldL_B, .one .ldL_C, .one .ldL_D, .one .ldL_E,
      .one .ldL_H, .one .ldL_L, .one .ldL_IndHL, .one .ldL_A]
  | 0x7 => [
      .one .ldIndHL_B, .one .ldIndHL_C, .one .ldIndHL_D, .one .ldIndHL_E,
      .one .ldIndHL_H, .one .ldIndHL_L, .one .halt, .one .ldIndHL_A,
      .one .ldA_B, .one .ldA_C, .one .ldA_D, .one .ldA_E,
      .one .ldA_H, .one .ldA_L, .one .ldA_IndHL, .one .ldA_A]
  | 0x8 => []
  | 0x9 => [
      .one .subB, .one .subC, .one .subD, .one .subE,
      .one .subH, .one .subL, .one .subIndHL, .one .subA,
      .unknown, .unknown, .unknown, .unknown,
      .unknown, .unknown, .unknown, .unknown]
  | 0xA => [
      .unknown, .unknown, .unknown, .unknown,
      .unknown, .unknown, .unknown, .unknown,
      .one .xorB, .one .xorC, .one .xorD, .one .xorE,
      .one .xorH, .one .xorL, .one .xorIndHL, .one .xorA]
  | 0xB => [
      .unknown, .unknown, .unknown, .unknown,
      .unknown, .unknown, .unknown, .unknown,
      .one .cpB, .one .cpC, .one .cpD, .one .cpE,
      .one .cpH, .one .cpL, .one .cpIndHL, .one .cpA]
  | 0xC => [
      .unknown, .one .popBC, .unknown, .unknown,
      .unknown, .one .pushBC, .unknown, .unknown,
      .unknown, .one .ret, .unknown, .extended,
      .unknown, .three .call, .unknown, .unknown]
  | 0xD => [
      .unknown, .one .popDE, .unknown, .unknown,
      .unknown, .one .pushDE, .two .subD8, .unknown,
      .unknown, .unknown, .unknown, .unknown,
      .unknown, .unknown, .unknown, .unknown]
  | 0xE => [
      .two .ldhIndA8_A, .one .popHL, .one .ldIndC_A, .unknown,
      .unknown, .one .pushHL, .unknown, .unknown,
      .unknown, .unknown, .three .ldIndA16_A, .unknown,
      .unknown, .unknown, .unknown, .unknown]
  | 0xF => [
      .two .ldhA_IndA8, .one .popAF, .one .ldA_IndC, .unknown,
      .unknown, .one .pushAF, .unknown, .unknown,
      .unknown, .unknown, .three .ldA_IndA16, .unknown,
      .unknown, .unknown, .two .cpD8, .unknown]
  | _ => []

/-- The full extended map (R117): the byte after 0xCB. A row absent here is all `-` cells, and row 1 stops at 0x17. -/
def extendedMap : Nat → List Instr
  | 0x1 => [
      .rlB, .rlC, .rlD, .rlE, .rlH, .rlL, .rlIndHL, .rlA]
  | 0x4 => [
      .bit0_B, .bit0_C, .bit0_D, .bit0_E, .bit0_H, .bit0_L, .bit0_IndHL, .bit0_A,
      .bit1_B, .bit1_C, .bit1_D, .bit1_E, .bit1_H, .bit1_L, .bit1_IndHL, .bit1_A]
  | 0x5 => [
      .bit2_B, .bit2_C, .bit2_D, .bit2_E, .bit2_H, .bit2_L, .bit2_IndHL, .bit2_A,
      .bit3_B, .bit3_C, .bit3_D, .bit3_E, .bit3_H, .bit3_L, .bit3_IndHL, .bit3_A]
  | 0x6 => [
      .bit4_B, .bit4_C, .bit4_D, .bit4_E, .bit4_H, .bit4_L, .bit4_IndHL, .bit4_A,
      .bit5_B, .bit5_C, .bit5_D, .bit5_E, .bit5_H, .bit5_L, .bit5_IndHL, .bit5_A]
  | 0x7 => [
      .bit6_B, .bit6_C, .bit6_D, .bit6_E, .bit6_H, .bit6_L, .bit6_IndHL, .bit6_A,
      .bit7_B, .bit7_C, .bit7_D, .bit7_E, .bit7_H, .bit7_L, .bit7_IndHL, .bit7_A]
  | _ => []

/-- The primary map's cell for a first byte (R97). -/
def primaryEntry (b : Byte) : Entry := (primaryMap (b.toNat / 16)).getD (b.toNat % 16) .unknown

/-- The extended table's instruction for the byte after 0xCB, if it has one (R102, R116). -/
def extendedEntry (b : Byte) : Option Instr := (extendedMap (b.toNat / 16))[b.toNat % 16]?

/-- The decoder (R97) on the bytes from the cursor on: the instruction and its length, or the failure. The end of the list
is the end of the stream (R95, R96 (a)). -/
def decode : List Byte → Except Failure (Instr × Nat)
  | [] => .error .endOfStream
  | b0 :: rest =>
    match primaryEntry b0 with
    | .unknown => .error (.unknownOpcode b0)
    | .one i => .ok (i, 1)
    | .two mk =>
      match rest with
      | n :: _ => .ok (mk n, 2)
      | [] => .error .endOfStream
    | .three mk =>
      match rest with
      | l :: h :: _ => .ok (mk (joinBytes h l), 3)
      | _ => .error .endOfStream
    | .extended =>
      match rest with
      | [] => .error .endOfStream
      | b1 :: _ =>
        match extendedEntry b1 with
        | some i => .ok (i, 2)
        | none => .error (.unknownExtendedOpcode b1)

/-- `decode(bytes, cursor)` (R94). -/
def decodeAt (bytes : List Byte) (cursor : Nat) : Except Failure (Instr × Nat) := decode (bytes.drop cursor)

/-! ## The decoded term -/

/-- The decoded term of each instruction: the table's `opcode` column (R93, R112 to R116). -/
def Instr.term : Instr → Opcode
  | .nop => .nop
  | .ldBC_d16 nn => .load (.register16 .bc) (.data16 nn)
  | .incBC => .inc (.register16 .bc)
  | .decBC => .dec (.register16 .bc)
  | .ldDE_d16 nn => .load (.register16 .de) (.data16 nn)
  | .incDE => .inc (.register16 .de)
  | .decDE => .dec (.register16 .de)
  | .ldHL_d16 nn => .load (.register16 .hl) (.data16 nn)
  | .incHL => .inc (.register16 .hl)
  | .decHL => .dec (.register16 .hl)
  | .ldSP_d16 nn => .load (.register16 .sp) (.data16 nn)
  | .incSP => .inc (.register16 .sp)
  | .decSP => .dec (.register16 .sp)
  | .ldIndBC_A => .load (.addrRegister .bc) (.register8 .a)
  | .ldIndDE_A => .load (.addrRegister .de) (.register8 .a)
  | .ldA_IndBC => .load (.register8 .a) (.addrRegister .bc)
  | .ldA_IndDE => .load (.register8 .a) (.addrRegister .de)
  | .ldHLinc_A => .ldInc .a
  | .ldHLdec_A => .ldDec .a
  | .incB => .inc (.register8 .b)
  | .decB => .dec (.register8 .b)
  | .ldB_d8 n => .load (.register8 .b) (.data8 n)
  | .incC => .inc (.register8 .c)
  | .decC => .dec (.register8 .c)
  | .ldC_d8 n => .load (.register8 .c) (.data8 n)
  | .incD => .inc (.register8 .d)
  | .decD => .dec (.register8 .d)
  | .ldD_d8 n => .load (.register8 .d) (.data8 n)
  | .incE => .inc (.register8 .e)
  | .decE => .dec (.register8 .e)
  | .ldE_d8 n => .load (.register8 .e) (.data8 n)
  | .incH => .inc (.register8 .h)
  | .decH => .dec (.register8 .h)
  | .ldH_d8 n => .load (.register8 .h) (.data8 n)
  | .incL => .inc (.register8 .l)
  | .decL => .dec (.register8 .l)
  | .ldL_d8 n => .load (.register8 .l) (.data8 n)
  | .incIndHL => .inc (.addrRegister .hl)
  | .decIndHL => .dec (.addrRegister .hl)
  | .ldIndHL_d8 n => .load (.addrRegister .hl) (.data8 n)
  | .incA => .inc (.register8 .a)
  | .decA => .dec (.register8 .a)
  | .ldA_d8 n => .load (.register8 .a) (.data8 n)
  | .rla => .rla
  | .jr e => .jumpRMemOffset e
  | .jrNZ e => .jumpRNZMemOffset e
  | .jrZ e => .jumpRZMemOffset e
  | .ldB_B => .load (.register8 .b) (.register8 .b)
  | .ldB_C => .load (.register8 .b) (.register8 .c)
  | .ldB_D => .load (.register8 .b) (.register8 .d)
  | .ldB_E => .load (.register8 .b) (.register8 .e)
  | .ldB_H => .load (.register8 .b) (.register8 .h)
  | .ldB_L => .load (.register8 .b) (.register8 .l)
  | .ldB_IndHL => .load (.register8 .b) (.addrRegister .hl)
  | .ldB_A => .load (.register8 .b) (.register8 .a)
  | .ldC_B => .load (.register8 .c) (.register8 .b)
  | .ldC_C => .load (.register8 .c) (.register8 .c)
  | .ldC_D => .load (.register8 .c) (.register8 .d)
  | .ldC_E => .load (.register8 .c) (.register8 .e)
  | .ldC_H => .load (.register8 .c) (.register8 .h)
  | .ldC_L => .load (.register8 .c) (.register8 .l)
  | .ldC_IndHL => .load (.register8 .c) (.addrRegister .hl)
  | .ldC_A => .load (.register8 .c) (.register8 .a)
  | .ldD_B => .load (.register8 .d) (.register8 .b)
  | .ldD_C => .load (.register8 .d) (.register8 .c)
  | .ldD_D => .load (.register8 .d) (.register8 .d)
  | .ldD_E => .load (.register8 .d) (.register8 .e)
  | .ldD_H => .load (.register8 .d) (.register8 .h)
  | .ldD_L => .load (.register8 .d) (.register8 .l)
  | .ldD_IndHL => .load (.register8 .d) (.addrRegister .hl)
  | .ldD_A => .load (.register8 .d) (.register8 .a)
  | .ldE_B => .load (.register8 .e) (.register8 .b)
  | .ldE_C => .load (.register8 .e) (.register8 .c)
  | .ldE_D => .load (.register8 .e) (.register8 .d)
  | .ldE_E => .load (.register8 .e) (.register8 .e)
  | .ldE_H => .load (.register8 .e) (.register8 .h)
  | .ldE_L => .load (.register8 .e) (.register8 .l)
  | .ldE_IndHL => .load (.register8 .e) (.addrRegister .hl)
  | .ldE_A => .load (.register8 .e) (.register8 .a)
  | .ldH_B => .load (.register8 .h) (.register8 .b)
  | .ldH_C => .load (.register8 .h) (.register8 .c)
  | .ldH_D => .load (.register8 .h) (.register8 .d)
  | .ldH_E => .load (.register8 .h) (.register8 .e)
  | .ldH_H => .load (.register8 .h) (.register8 .h)
  | .ldH_L => .load (.register8 .h) (.register8 .l)
  | .ldH_IndHL => .load (.register8 .h) (.addrRegister .hl)
  | .ldH_A => .load (.register8 .h) (.register8 .a)
  | .ldL_B => .load (.register8 .l) (.register8 .b)
  | .ldL_C => .load (.register8 .l) (.register8 .c)
  | .ldL_D => .load (.register8 .l) (.register8 .d)
  | .ldL_E => .load (.register8 .l) (.register8 .e)
  | .ldL_H => .load (.register8 .l) (.register8 .h)
  | .ldL_L => .load (.register8 .l) (.register8 .l)
  | .ldL_IndHL => .load (.register8 .l) (.addrRegister .hl)
  | .ldL_A => .load (.register8 .l) (.register8 .a)
  | .ldIndHL_B => .load (.addrRegister .hl) (.register8 .b)
  | .ldIndHL_C => .load (.addrRegister .hl) (.register8 .c)
  | .ldIndHL_D => .load (.addrRegister .hl) (.register8 .d)
  | .ldIndHL_E => .load (.addrRegister .hl) (.register8 .e)
  | .ldIndHL_H => .load (.addrRegister .hl) (.register8 .h)
  | .ldIndHL_L => .load (.addrRegister .hl) (.register8 .l)
  | .halt => .halt
  | .ldIndHL_A => .load (.addrRegister .hl) (.register8 .a)
  | .ldA_B => .load (.register8 .a) (.register8 .b)
  | .ldA_C => .load (.register8 .a) (.register8 .c)
  | .ldA_D => .load (.register8 .a) (.register8 .d)
  | .ldA_E => .load (.register8 .a) (.register8 .e)
  | .ldA_H => .load (.register8 .a) (.register8 .h)
  | .ldA_L => .load (.register8 .a) (.register8 .l)
  | .ldA_IndHL => .load (.register8 .a) (.addrRegister .hl)
  | .ldA_A => .load (.register8 .a) (.register8 .a)
  | .subB => .sub (.register8 .b)
  | .xorB => .xor (.register8 .b)
  | .cpB => .cp (.register8 .b)
  | .subC => .sub (.register8 .c)
  | .xorC => .xor (.register8 .c)
  | .cpC => .cp (.register8 .c)
  | .subD => .sub (.register8 .d)
  | .xorD => .xor (.register8 .d)
  | .cpD => .cp (.register8 .d)
  | .subE => .sub (.register8 .e)
  | .xorE => .xor (.register8 .e)
  | .cpE => .cp (.register8 .e)
  | .subH => .sub (.register8 .h)
  | .xorH => .xor (.register8 .h)
  | .cpH => .cp (.register8 .h)
  | .subL => .sub (.register8 .l)
  | .xorL => .xor (.register8 .l)
  | .cpL => .cp (.register8 .l)
  | .subIndHL => .sub (.addrRegister .hl)
  | .xorIndHL => .xor (.addrRegister .hl)
  | .cpIndHL => .cp (.addrRegister .hl)
  | .subA => .sub (.register8 .a)
  | .xorA => .xor (.register8 .a)
  | .cpA => .cp (.register8 .a)
  | .popBC => .pop .bc
  | .pushBC => .push .bc
  | .popDE => .pop .de
  | .pushDE => .push .de
  | .popHL => .pop .hl
  | .pushHL => .push .hl
  | .popAF => .pop .af
  | .pushAF => .push .af
  | .ret => .ret
  | .call nn => .call nn
  | .subD8 n => .sub (.data8 n)
  | .ldhIndA8_A n => .load (.addr8 n) (.register8 .a)
  | .ldhA_IndA8 n => .load (.register8 .a) (.addr8 n)
  | .ldIndC_A => .load (.addrRegister .c) (.register8 .a)
  | .ldA_IndC => .load (.register8 .a) (.addrRegister .c)
  | .ldIndA16_A nn => .load (.addr16 nn) (.register8 .a)
  | .ldA_IndA16 nn => .load (.register8 .a) (.addr16 nn)
  | .cpD8 n => .cp (.data8 n)
  | .rlB => .rl (.register8 .b)
  | .rlC => .rl (.register8 .c)
  | .rlD => .rl (.register8 .d)
  | .rlE => .rl (.register8 .e)
  | .rlH => .rl (.register8 .h)
  | .rlL => .rl (.register8 .l)
  | .rlIndHL => .rl (.addrRegister .hl)
  | .rlA => .rl (.register8 .a)
  | .bit0_B => .complBit 0 (.register8 .b)
  | .bit0_C => .complBit 0 (.register8 .c)
  | .bit0_D => .complBit 0 (.register8 .d)
  | .bit0_E => .complBit 0 (.register8 .e)
  | .bit0_H => .complBit 0 (.register8 .h)
  | .bit0_L => .complBit 0 (.register8 .l)
  | .bit0_IndHL => .complBit 0 (.addrRegister .hl)
  | .bit0_A => .complBit 0 (.register8 .a)
  | .bit1_B => .complBit 1 (.register8 .b)
  | .bit1_C => .complBit 1 (.register8 .c)
  | .bit1_D => .complBit 1 (.register8 .d)
  | .bit1_E => .complBit 1 (.register8 .e)
  | .bit1_H => .complBit 1 (.register8 .h)
  | .bit1_L => .complBit 1 (.register8 .l)
  | .bit1_IndHL => .complBit 1 (.addrRegister .hl)
  | .bit1_A => .complBit 1 (.register8 .a)
  | .bit2_B => .complBit 2 (.register8 .b)
  | .bit2_C => .complBit 2 (.register8 .c)
  | .bit2_D => .complBit 2 (.register8 .d)
  | .bit2_E => .complBit 2 (.register8 .e)
  | .bit2_H => .complBit 2 (.register8 .h)
  | .bit2_L => .complBit 2 (.register8 .l)
  | .bit2_IndHL => .complBit 2 (.addrRegister .hl)
  | .bit2_A => .complBit 2 (.register8 .a)
  | .bit3_B => .complBit 3 (.register8 .b)
  | .bit3_C => .complBit 3 (.register8 .c)
  | .bit3_D => .complBit 3 (.register8 .d)
  | .bit3_E => .complBit 3 (.register8 .e)
  | .bit3_H => .complBit 3 (.register8 .h)
  | .bit3_L => .complBit 3 (.register8 .l)
  | .bit3_IndHL => .complBit 3 (.addrRegister .hl)
  | .bit3_A => .complBit 3 (.register8 .a)
  | .bit4_B => .complBit 4 (.register8 .b)
  | .bit4_C => .complBit 4 (.register8 .c)
  | .bit4_D => .complBit 4 (.register8 .d)
  | .bit4_E => .complBit 4 (.register8 .e)
  | .bit4_H => .complBit 4 (.register8 .h)
  | .bit4_L => .complBit 4 (.register8 .l)
  | .bit4_IndHL => .complBit 4 (.addrRegister .hl)
  | .bit4_A => .complBit 4 (.register8 .a)
  | .bit5_B => .complBit 5 (.register8 .b)
  | .bit5_C => .complBit 5 (.register8 .c)
  | .bit5_D => .complBit 5 (.register8 .d)
  | .bit5_E => .complBit 5 (.register8 .e)
  | .bit5_H => .complBit 5 (.register8 .h)
  | .bit5_L => .complBit 5 (.register8 .l)
  | .bit5_IndHL => .complBit 5 (.addrRegister .hl)
  | .bit5_A => .complBit 5 (.register8 .a)
  | .bit6_B => .complBit 6 (.register8 .b)
  | .bit6_C => .complBit 6 (.register8 .c)
  | .bit6_D => .complBit 6 (.register8 .d)
  | .bit6_E => .complBit 6 (.register8 .e)
  | .bit6_H => .complBit 6 (.register8 .h)
  | .bit6_L => .complBit 6 (.register8 .l)
  | .bit6_IndHL => .complBit 6 (.addrRegister .hl)
  | .bit6_A => .complBit 6 (.register8 .a)
  | .bit7_B => .complBit 7 (.register8 .b)
  | .bit7_C => .complBit 7 (.register8 .c)
  | .bit7_D => .complBit 7 (.register8 .d)
  | .bit7_E => .complBit 7 (.register8 .e)
  | .bit7_H => .complBit 7 (.register8 .h)
  | .bit7_L => .complBit 7 (.register8 .l)
  | .bit7_IndHL => .complBit 7 (.addrRegister .hl)
  | .bit7_A => .complBit 7 (.register8 .a)

/-- How many immediate bytes a slot takes from the stream (R103 to R105). -/
def Slot.immediateBytes : Slot → Nat
  | .register8 _ | .register16 _ | .addrRegister _ => 0
  | .addr8 _ | .data8 _ => 1
  | .addr16 _ | .data16 _ => 2

/-- The length in bytes of the instruction with this decoded term (R107, R118): its opcode bytes (two in the 0xCB
space) and its immediate bytes. -/
def Opcode.length : Opcode → Nat
  | .nop | .halt | .ret | .rla | .ldInc _ | .ldDec _ | .push _ | .pop _ => 1
  | .load dst src => 1 + dst.immediateBytes + src.immediateBytes
  | .inc s | .dec s | .cp s | .sub s | .xor s => 1 + s.immediateBytes
  | .rl _ | .complBit _ _ => 2
  | .call _ => 3
  | .jumpRMemOffset _ | .jumpRNZMemOffset _ | .jumpRZMemOffset _ => 2

/-- The length of an instruction, 1 to 3 bytes (R90, R118). -/
def Instr.length (i : Instr) : Nat := i.term.length

/-! ## The encoder -/

/-- The 3-bit field `r` of a byte register (R108). F has none. -/
def Reg8.code : Reg8 → Option (BitVec 3)
  | .b => some 0b000
  | .c => some 0b001
  | .d => some 0b010
  | .e => some 0b011
  | .h => some 0b100
  | .l => some 0b101
  | .a => some 0b111
  | .f => none

/-- The 3-bit field `r` of a slot (R108): a byte register, or 110 for (HL). -/
def Slot.code : Slot → Option (BitVec 3)
  | .register8 r => r.code
  | .addrRegister .hl => some 0b110
  | _ => none

/-- The 2-bit pair field `rp` of LD rr,d16, INC rr and DEC rr (R109). -/
def Reg16.rp : Reg16 → Option (BitVec 2)
  | .bc => some 0b00
  | .de => some 0b01
  | .hl => some 0b10
  | .sp => some 0b11
  | .af => none

/-- The 2-bit pair field `rp2` of PUSH and POP (R110). -/
def Reg16.rp2 : Reg16 → Option (BitVec 2)
  | .bc => some 0b00
  | .de => some 0b01
  | .hl => some 0b10
  | .af => some 0b11
  | .sp => none

/-- The bytes of the encodings of a Load (R99, R112, R115), `none` for a Load that has no encoding. Of two (HL) operands
there is none: 0x76 is HALT (R100). -/
def encodeLoad : Slot → Slot → Option (List Byte)
  | .register16 p, .data16 nn => p.rp.map fun pp => [0b00#2 ++ pp ++ 0b0001#4, loByte nn, hiByte nn]
  | .addrRegister .hl, .data8 n => some [0b00110110, n]
  | .register8 r, .data8 n => r.code.map fun x => [0b00#2 ++ x ++ 0b110#3, n]
  | .addrRegister .bc, .register8 .a => some [0b00000010]
  | .addrRegister .de, .register8 .a => some [0b00010010]
  | .register8 .a, .addrRegister .bc => some [0b00001010]
  | .register8 .a, .addrRegister .de => some [0b00011010]
  | .addrRegister .c, .register8 .a => some [0b11100010]
  | .register8 .a, .addrRegister .c => some [0b11110010]
  | .addr8 n, .register8 .a => some [0b11100000, n]
  | .register8 .a, .addr8 n => some [0b11110000, n]
  | .addr16 nn, .register8 .a => some [0b11101010, loByte nn, hiByte nn]
  | .register8 .a, .addr16 nn => some [0b11111010, loByte nn, hiByte nn]
  | .addrRegister .hl, .addrRegister .hl => none
  | dst, src =>
    match dst.code, src.code with
    | some x, some y => some [0b01#2 ++ x ++ y]
    | _, _ => none

/-- The bytes of the encodings of a decoded term (R107 to R116), `none` for a term that has no encoding. -/
def Opcode.encode : Opcode → Option (List Byte)
  | .nop => some [0b00000000]
  | .halt => some [0b01110110]
  | .ret => some [0b11001001]
  | .load dst src => encodeLoad dst src
  | .call nn => some [0b11001101, loByte nn, hiByte nn]
  | .inc (.register16 p) => p.rp.map fun pp => [0b00#2 ++ pp ++ 0b0011#4]
  | .inc s => s.code.map fun x => [0b00#2 ++ x ++ 0b100#3]
  | .dec (.register16 p) => p.rp.map fun pp => [0b00#2 ++ pp ++ 0b1011#4]
  | .dec s => s.code.map fun x => [0b00#2 ++ x ++ 0b101#3]
  | .sub (.data8 n) => some [0b11010110, n]
  | .sub s => s.code.map fun x => [0b10010#5 ++ x]
  | .cp (.data8 n) => some [0b11111110, n]
  | .cp s => s.code.map fun x => [0b10111#5 ++ x]
  | .xor s => s.code.map fun x => [0b10101#5 ++ x]
  | .ldInc .a => some [0b00100010]
  | .ldInc _ => none
  | .ldDec .a => some [0b00110010]
  | .ldDec _ => none
  | .rla => some [0b00010111]
  | .rl s => s.code.map fun x => [0xCB, 0b00010#5 ++ x]
  | .complBit n s => s.code.map fun x => [0xCB, 0b01#2 ++ BitVec.ofNat 3 n.val ++ x]
  | .push p => p.rp2.map fun pp => [0b11#2 ++ pp ++ 0b0101#4]
  | .pop p => p.rp2.map fun pp => [0b11#2 ++ pp ++ 0b0001#4]
  | .jumpRMemOffset e => some [0b00011000, e]
  | .jumpRNZMemOffset e => some [0b00100000, e]
  | .jumpRZMemOffset e => some [0b00101000, e]

/-- The bytes of an instruction, first byte first. Every instruction's term has an encoding, so the default is not met. -/
def Instr.encode (i : Instr) : List Byte := i.term.encode.getD []

/-! ## The words of the opcode table -/

/-- The three bytes, first byte first, of a table word of `nbits` bits, with every bit above `nbits` zero. A 16-bit row of
the table is a `match` of the form 0xCBxx, a number that has the first byte in bits 15:8 (DEDUCED, log entry 5); every
other word has its first byte in bits 7:0. -/
def tableBytes (nbits w : Nat) : List Byte :=
  let v := w % 2 ^ nbits
  if nbits = 16 ∧ v / 256 = 0xCB then [0xCB, BitVec.ofNat 8 v, 0]
  else [BitVec.ofNat 8 v, BitVec.ofNat 8 (v / 256), BitVec.ofNat 8 (v / 65536)]

/-- The instruction the decoder reads from a table word. -/
def decodeTableWord (nbits w : Nat) : Option Instr :=
  match decode (tableBytes nbits w) with
  | .ok (i, _) => some i
  | .error _ => none

end Sys2Proof
end

