-- ==== Sys2Proof/Config.lean ====
section
/-!
DEFINITION. The two launch parameters the spec leaves OPEN (00_scope.md R8): `XOR_FLAGS` and `RESET_REGS`.
`XOR_FLAGS` is a constant with no body: nothing can be proved of its value, so a claim holds for both.
`RESET_REGS` is a type; `State.launch` takes one as an argument, and `Config.resetRegs` names the one `State.reset` uses.
-/

namespace Sys2Proof

/-- The values of the launch parameter `XOR_FLAGS` (42_arith_logic.md R214, decision D9). -/
inductive XorFlags where
  /-- XOR writes Z (result = 0) and clears Cy. -/
  | hw
  /-- XOR does not write F. -/
  | none
  deriving DecidableEq, Repr, Inhabited

/-- DESIGN CHOICE (log entry 2), safe: the launch parameter `XOR_FLAGS` of this machine, a free value.
The source leaves it open on purpose (R214), so it has no body. -/
opaque Config.xorFlags : XorFlags

/-- One draw of the launch parameter `RESET_REGS`: the values of A, B, C, D, E, H, L, F and SP at reset (R8, R49). -/
structure ResetRegs where
  a : Byte
  b : Byte
  c : Byte
  d : Byte
  e : Byte
  h : Byte
  l : Byte
  f : Byte
  sp : Word
  deriving DecidableEq, Repr

/-- DESIGN CHOICE (log entry 1), unsafe: the draw that `State.reset` stands for. The spec gives these registers no
value (R49) and R50 forbids resting a claim on one; `State.launch` takes every draw, and claims about reset use that. -/
def Config.resetRegs : ResetRegs where
  a := 0
  b := 0
  c := 0
  d := 0
  e := 0
  h := 0
  l := 0
  f := 0
  sp := 0

end Sys2Proof
end

