-- ==== Sys2Proof/Machine/State.lean ====
section
/-!
DEFINITION. The state of the core (10_state.md R30 to R47): the register file, memory and the run state, and nothing else.
-/

namespace Sys2Proof.Machine

/-- Memory: the bytes that differ from 0x00, as (address, byte) pairs. An address that is not listed reads 0x00, the
zero fill of 10_state.md R49. Its canonical form is `Memory.wf`. -/
abbrev Memory := List Host.Cell

/-- The record of a failed cycle (R46, 60_exceptions.md R283): the kind with its detail, and the address of the failing
instruction's first byte. -/
structure FaultRecord where
  failure : Failure
  pc : Word
  deriving DecidableEq, Repr

/-- The run state (R45, R46). -/
inductive RunState where
  | running
  | halted
  | faulted (record : FaultRecord)
  deriving DecidableEq, Repr

/-- The state of the core. The pairs AF, BC, DE and HL are views (R33), so they are no fields. -/
structure State where
  a : Byte
  b : Byte
  c : Byte
  d : Byte
  e : Byte
  h : Byte
  l : Byte
  f : Byte
  sp : Word
  pc : Word
  mem : Memory
  run : RunState
  deriving DecidableEq, Repr

/-- Why a step has no next state. -/
inductive Fault where
  /-- Raised by `step` alone, for a step asked of a `Halted` core: there is no such step (R140, R315). Safe: the
  machine stops where the spec gives no move. -/
  | stepWhenHalted
  /-- Raised by `step` alone, for a step asked of a `Faulted` core: there is no such step (R140, R315). Safe: the
  machine stops where the spec gives no move. -/
  | stepWhenFaulted (record : FaultRecord)
  deriving DecidableEq, Repr

/-- Why an instruction has no meaning in the model. -/
inductive Refusal where
  /-- Raised by an arm of `exec` whose instruction is not modelled yet. Safe: the machine stops. No arm does. -/
  | notModelled (mnemonic : String)
  deriving DecidableEq, Repr

/-- The outcome of an instruction or a step. -/
abbrev Result := Host.Outcome State Fault Refusal

/-- The state after reset with an empty image (R49, 70_reset_and_hazards.md R310): PC = 0x0000, memory all zero, running;
A to L, F and SP at the draw `Config.resetRegs` (DESIGN CHOICE, log entry 1, unsafe). `State.launch` in Machine/Ops.lean
takes every draw and every image. -/
def State.reset : State where
  a := Config.resetRegs.a
  b := Config.resetRegs.b
  c := Config.resetRegs.c
  d := Config.resetRegs.d
  e := Config.resetRegs.e
  h := Config.resetRegs.h
  l := Config.resetRegs.l
  f := Config.resetRegs.f
  sp := Config.resetRegs.sp
  pc := 0
  mem := []
  run := .running

end Sys2Proof.Machine
end

