-- ==== Sys2Proof/Machine/Ops.lean ====
section
/-!
DEFINITION. The named operations over memory and registers: byte reads and writes, register accessors and pair views, the
stack primitives, instruction fetch, taking a failure, and the image load.
-/

namespace Sys2Proof.Machine

/-! ## Memory (20_memory.md) -/

/-- The canonical form: addresses strictly rising and inside the address space, and no byte listed that is 0x00. -/
abbrev Memory.wf (m : Memory) : Prop :=
  m.Pairwise (fun x y => x.1 < y.1) ∧ ∀ cell ∈ m, cell.1 < memSize ∧ cell.2 ≠ 0

/-- The byte at an address; an address not listed reads 0x00 (R49). -/
def Memory.read : Memory → Nat → Byte
  | [], _ => 0
  | (k, v) :: rest, addr => if k = addr then v else Memory.read rest addr

/-- The memory with nothing listed at the address. -/
def Memory.erase : Memory → Nat → Memory
  | [], _ => []
  | (k, v) :: rest, addr => if k = addr then Memory.erase rest addr else (k, v) :: Memory.erase rest addr

/-- The memory with the cell put before the first one of a greater address. -/
def Memory.insert : Memory → Nat → Byte → Memory
  | [], addr, v => [(addr, v)]
  | (k, x) :: rest, addr, v => if addr < k then (addr, v) :: (k, x) :: rest else (k, x) :: Memory.insert rest addr v

/-- Store a byte (R61). Storing 0x00 lists nothing, so the form stays canonical. -/
def Memory.write (m : Memory) (addr : Nat) (v : Byte) : Memory :=
  if v = 0 then m.erase addr else (m.erase addr).insert addr v

/-- Store bytes at consecutive addresses, stopping at the end of the address space. -/
def Memory.writeBytes (m : Memory) (addr : Nat) : List Byte → Memory
  | [] => m
  | v :: rest => if addr < memSize then (m.write addr v).writeBytes (addr + 1) rest else m

/-- At most `n` bytes from an index on. The list ends where the byte stream does, at index 0x10000 (30_encoding.md R95). -/
def Memory.bytesFrom (m : Memory) (addr : Nat) : Nat → List Byte
  | 0 => []
  | n + 1 => if addr < memSize then m.read addr :: m.bytesFrom (addr + 1) n else []

/-! ## One update per field -/

def State.setA (s : State) (v : Byte) : State := { s with a := v }
def State.setB (s : State) (v : Byte) : State := { s with b := v }
def State.setC (s : State) (v : Byte) : State := { s with c := v }
def State.setD (s : State) (v : Byte) : State := { s with d := v }
def State.setE (s : State) (v : Byte) : State := { s with e := v }
def State.setH (s : State) (v : Byte) : State := { s with h := v }
def State.setL (s : State) (v : Byte) : State := { s with l := v }
def State.setF (s : State) (v : Byte) : State := { s with f := v }
def State.setSp (s : State) (v : Word) : State := { s with sp := v }
def State.setPc (s : State) (v : Word) : State := { s with pc := v }
def State.setMem (s : State) (v : Memory) : State := { s with mem := v }
def State.setRun (s : State) (v : RunState) : State := { s with run := v }

/-! ## State access (00_scope.md R11) -/

/-- `MemRead(addr, 1)`: always succeeds and changes nothing (R61, R63). -/
def State.readByte (s : State) (addr : Word) : Byte := s.mem.read addr.toNat

/-- `MemWrite(addr, 1, v)`: always succeeds and changes only the addressed byte (R61 to R63). -/
def State.writeByte (s : State) (addr : Word) (v : Byte) : State := s.setMem (s.mem.write addr.toNat v)

/-- `x[r]` for a byte register. Reading F whole is the host's diagnostic read (70_reset_and_hazards.md R318). -/
def State.reg8 (s : State) : Reg8 → Byte
  | .a => s.a
  | .b => s.b
  | .c => s.c
  | .d => s.d
  | .e => s.e
  | .h => s.h
  | .l => s.l
  | .f => s.f

/-- `x[r] <- v` for a byte register. F is never written whole (10_state.md R31, R39): the executor refuses it before this,
and a write to it writes nothing (log entry 7). -/
def State.setReg8 (s : State) : Reg8 → Byte → State
  | .a, v => s.setA v
  | .b, v => s.setB v
  | .c, v => s.setC v
  | .d, v => s.setD v
  | .e, v => s.setE v
  | .h, v => s.setH v
  | .l, v => s.setL v
  | .f, _ => s

/-- `x[p]`: the pair views `high ++ low` (R33) and the true register SP (R32). -/
def State.reg16 (s : State) : Reg16 → Word
  | .af => joinBytes s.a s.f
  | .bc => joinBytes s.b s.c
  | .de => joinBytes s.d s.e
  | .hl => joinBytes s.h s.l
  | .sp => s.sp

/-- `x[p] <- v`: both halves in one step, the first-named register taking bits 15:8 (R34). AF is no write target (R39): the
executor refuses it before this, and a write to it writes nothing (log entry 7). -/
def State.setReg16 (s : State) : Reg16 → Word → State
  | .af, _ => s
  | .bc, v => (s.setB (hiByte v)).setC (loByte v)
  | .de, v => (s.setD (hiByte v)).setE (loByte v)
  | .hl, v => (s.setH (hiByte v)).setL (loByte v)
  | .sp, v => s.setSp v

/-! ## Stack primitives (40_executor.md R157, R158) -/

/-- `Push16(v)`: the high byte at SP - 1, the low byte at SP - 2, SP down by 2. -/
def State.push16 (s : State) (v : Word) : State :=
  ((s.writeByte (s.sp - 1) (hiByte v)).writeByte (s.sp - 2) (loByte v)).setSp (s.sp - 2)

/-- The word `Pop16()` returns: the low byte at SP, the high byte at SP + 1. -/
def State.stackTop (s : State) : Word := joinBytes (s.readByte (s.sp + 1)) (s.readByte s.sp)

/-- What `Pop16()` does to the state: SP up by 2. -/
def State.dropStack (s : State) : State := s.setSp (s.sp + 2)

/-! ## The cycle's parts (40_executor.md R140) -/

/-- The bytes the decoder may read: those at PC, PC + 1 and PC + 2 that lie below 0x10000 (30_encoding.md R90, R95). Fetch
does not wrap. -/
def State.fetch (s : State) : List Byte := s.mem.bytesFrom s.pc.toNat 3

/-- The state `t` that execute starts from: PC is the post-fetch PC (10_state.md R42). -/
def State.fetched (s : State) (len : Nat) : State := s.setPc (s.pc + BitVec.ofNat 16 len)

/-- Take a failure (60_exceptions.md R283, R287): the run state becomes `Faulted` with the failure and the address of the
instruction, and nothing else changes. There is no handler, no saved register and no return (R287, R288). -/
def State.takeFailure (s : State) (g : Failure) : State := s.setRun (.faulted ⟨g, s.pc⟩)

/-! ## Reset and image load (70_reset_and_hazards.md R310) -/

/-- The reset state for a draw of `RESET_REGS` and an image, or `DataTooLarge` (10_state.md R49, 20_memory.md R77). -/
def State.launch (r : ResetRegs) (image : List Byte) : Except LoadFailure State :=
  if imageFits image then
    .ok { a := r.a, b := r.b, c := r.c, d := r.d, e := r.e, h := r.h, l := r.l, f := r.f, sp := r.sp, pc := 0,
          mem := Memory.writeBytes [] 0 image, run := .running }
  else .error (.dataTooLarge image.length)

/-- The state with bytes stored from PC on, for the host's placing of an instruction. -/
def State.placeAtPc (s : State) (bytes : List Byte) : State := s.setMem (s.mem.writeBytes s.pc.toNat bytes)

end Sys2Proof.Machine
end

