-- ==== Sys2Proof/Machine/Flags.lean ====
section
/-!
DEFINITION. The flags (10_state.md R36, R37) and the ALU laws (40_executor.md R150 to R156) with what each leaves in Z and
Cy (R40, R41). Only bits 7 and 4 of F are ever written.
-/

namespace Sys2Proof.Machine

/-- The zero flag Z: F bit 7 (R36). -/
def State.z (s : State) : Bool := s.f.getLsbD 7

/-- The carry flag Cy: F bit 4 (R36). -/
def State.cy (s : State) : Bool := s.f.getLsbD 4

/-- `F` with bit 7 replaced (R37). -/
def withZ (f : Byte) (b : Bool) : Byte := (f &&& 0x7F) ||| (if b then 0x80 else 0)

/-- `F` with bit 4 replaced (R37). -/
def withCy (f : Byte) (b : Bool) : Byte := (f &&& 0xEF) ||| (if b then 0x10 else 0)

/-- `Z <- b` (R37). -/
def State.setZ (s : State) (b : Bool) : State := s.setF (withZ s.f b)

/-- `Cy <- b` (R37). -/
def State.setCy (s : State) (b : Bool) : State := s.setF (withCy s.f b)

/-- `isZero8` (R150). -/
def isZero8 (v : Byte) : Bool := v == 0

/-- `inc8` (R151). -/
def inc8 (v : Byte) : Byte := v + 1

/-- `dec8` (R152). -/
def dec8 (v : Byte) : Byte := v - 1

/-- `sub8` (R153). -/
def sub8 (a v : Byte) : Byte := a - v

/-- `borrow` (R153): the comparison is unsigned. -/
def borrow (a v : Byte) : Bool := a.toNat < v.toNat

/-- `xor8` (R154). -/
def xor8 (a v : Byte) : Byte := a ^^^ v

/-- `rl8` (R155): the value shifted left by one, with the carry in at bit 0. -/
def rl8 (v : Byte) (cin : Bool) : Byte := (v <<< 1) ||| (if cin then 1 else 0)

/-- The carry out of `rl8`: the old bit 7 (R155). -/
def rl8Out (v : Byte) : Bool := v.getLsbD 7

/-- `inc16` (R156). -/
def inc16 (v : Word) : Word := v + 1

/-- `dec16` (R156). -/
def dec16 (v : Word) : Word := v - 1

/-- The flags of SUB and CP (R206, R209): Z from the difference, Cy the borrow. -/
def State.subFlags (s : State) (a v : Byte) : State := (s.setZ (isZero8 (sub8 a v))).setCy (borrow a v)

/-- `XorFlags(res)` under a value of `XOR_FLAGS` (42_arith_logic.md R214). -/
def State.xorFlags (s : State) (mode : XorFlags) (res : Byte) : State :=
  match mode with
  | .hw => (s.setZ (isZero8 res)).setCy false
  | .none => s

end Sys2Proof.Machine
end

