-- ==== Sys2Proof/Machine/Operands.lean ====
section
/-!
DEFINITION. The operand multiplexer (40_executor.md R143 to R145) and the executor's checks (R146 to R149).
-/

namespace Sys2Proof.Machine

/-- `0xFF00 + offset` (20_memory.md R64). -/
def highAddr (n : Byte) : Word := 0xFF00 + n.setWidth 16

/-- The address an `AddrRegister` slot names (R143). -/
def indAddr (s : State) : IndReg → Word
  | .bc => s.reg16 .bc
  | .de => s.reg16 .de
  | .hl => s.reg16 .hl
  | .c => highAddr s.c

/-- `EA(slot)` (R143): the address of a memory slot; a slot that is no memory slot has none. -/
def effAddr (s : State) : Slot → Option Word
  | .addrRegister i => some (indAddr s i)
  | .addr8 n => some (highAddr n)
  | .addr16 a => some a
  | .register8 _ | .register16 _ | .data8 _ | .data16 _ => none

/-- `ReadSlot` (R144): always 16 bits, a byte widened with zeros. -/
def readSlot (s : State) : Slot → Word
  | .register8 r => (s.reg8 r).setWidth 16
  | .register16 p => s.reg16 p
  | .addrRegister i => (s.readByte (indAddr s i)).setWidth 16
  | .addr8 n => (s.readByte (highAddr n)).setWidth 16
  | .addr16 a => (s.readByte a).setWidth 16
  | .data8 n => n.setWidth 16
  | .data16 n => n

/-- `WriteSlot` (R144): the value truncated to the slot's natural width. An immediate is no destination: the executor refuses
it before this (R147), and a write to it writes nothing (log entry 7). -/
def writeSlot (s : State) : Slot → Word → State
  | .register8 r, v => s.setReg8 r (loByte v)
  | .register16 p, v => s.setReg16 p v
  | .addrRegister i, v => s.writeByte (indAddr s i) (loByte v)
  | .addr8 n, v => s.writeByte (highAddr n) (loByte v)
  | .addr16 a, v => s.writeByte a (loByte v)
  | .data8 _, _ => s
  | .data16 _, _ => s

/-- A byte operand: the low byte of what `ReadSlot` gives (R144). -/
def readSlot8 (s : State) (slot : Slot) : Byte := loByte (readSlot s slot)

/-- A byte result written back (R144). -/
def writeSlot8 (s : State) (slot : Slot) (v : Byte) : State := writeSlot s slot (v.setWidth 16)

/-- The natural width of a slot is 16 bits (R145): INC and DEC then follow their 16-bit rule. -/
def isWide : Slot → Bool
  | .register16 _ | .data16 _ => true
  | .register8 _ | .addrRegister _ | .addr8 _ | .addr16 _ | .data8 _ => false

/-! ## The checks -/

/-- F and AF, illegal as any operand (R146, R147). -/
def isForbidden : Slot → Bool
  | .register8 .f => true
  | .register16 .af => true
  | _ => false

/-- An immediate, illegal as a destination (R147). -/
def isImmediate : Slot → Bool
  | .data8 _ | .data16 _ => true
  | _ => false

/-- The operands of a term in field order (R148). -/
def operandsOf : Opcode → List Slot
  | .nop | .halt | .ret | .rla | .call _ | .jumpRMemOffset _ | .jumpRNZMemOffset _ | .jumpRZMemOffset _ => []
  | .load dst src => [dst, src]
  | .inc s | .dec s | .cp s | .sub s | .xor s | .rl s => [s]
  | .complBit _ s => [s]
  | .ldInc r | .ldDec r => [.register8 r]
  | .push p | .pop p => [.register16 p]

/-- The operands a term writes (R147 (b)). SUB, XOR write A, which is no operand of theirs. -/
def destinationsOf : Opcode → List Slot
  | .load dst _ => [dst]
  | .inc s | .dec s | .rl s => [s]
  | .pop p => [.register16 p]
  | .nop | .halt | .ret | .rla | .call _ | .jumpRMemOffset _ | .jumpRNZMemOffset _ | .jumpRZMemOffset _ => []
  | .cp _ | .sub _ | .xor _ | .complBit _ _ | .ldInc _ | .ldDec _ | .push _ => []

/-- The operand shape has semantics (R149, R159), once F, AF and immediate destinations are ruled out. -/
def shapeHasRule : Opcode → Bool
  | .sub s | .cp s | .xor s =>
    match s with
    | .register16 _ | .data16 _ => false
    | .register8 _ | .addrRegister _ | .addr8 _ | .addr16 _ | .data8 _ => true
  | .rl s =>
    match s with
    | .register16 _ => false
    | _ => true
  | .complBit _ s =>
    match s with
    | .register16 _ | .data8 _ | .data16 _ => false
    | .register8 _ | .addrRegister _ | .addr8 _ | .addr16 _ => true
  | .push p | .pop p => p != .sp
  | .nop | .halt | .ret | .rla | .call _ | .jumpRMemOffset _ | .jumpRNZMemOffset _ | .jumpRZMemOffset _ => true
  | .load _ _ | .inc _ | .dec _ | .ldInc _ | .ldDec _ => true

/-- The first check that fails (R148): F or AF in field order, then an immediate destination, then the shape. The checks look
at the term alone and come before any read or write (R141). -/
def checkTerm (op : Opcode) : Option Failure :=
  match (operandsOf op).find? isForbidden with
  | some slot => some (.illegalOperand slot)
  | none =>
    match (destinationsOf op).find? isImmediate with
    | some slot => some (.illegalOperand slot)
    | none => if shapeHasRule op then none else some (.unimplementedOpcode op)

end Sys2Proof.Machine
end

