-- ==== Sys2Proof/Machine/Executor.lean ====
section
/-!
DEFINITION. The executor (40_executor.md R142, R160): what each `Opcode` variant does, once, over slots; the dispatch over
variants; and the execute half of a cycle (R140). Every operand is read before anything is written (R161).
-/

namespace Sys2Proof.Machine

/-- The generic Load (41_load.md R170). -/
def opLoad (s : State) (dst src : Slot) : State := writeSlot s dst (readSlot s src)

/-- `LdInc(r)` (R179): store r at HL, then HL + 1. -/
def opLdInc (s : State) (r : Reg8) : State :=
  (s.writeByte (s.reg16 .hl) (s.reg8 r)).setReg16 .hl (inc16 (s.reg16 .hl))

/-- `LdDec(r)` (R180): store r at HL, then HL - 1. -/
def opLdDec (s : State) (r : Reg8) : State :=
  (s.writeByte (s.reg16 .hl) (s.reg8 r)).setReg16 .hl (dec16 (s.reg16 .hl))

/-- `Inc(slot)`: 16-bit without flags (R204), or 8-bit with Z (R200, R201). -/
def opInc (s : State) (slot : Slot) : State :=
  if isWide slot then writeSlot s slot (inc16 (readSlot s slot))
  else
    let res := inc8 (readSlot8 s slot)
    (writeSlot8 s slot res).setZ (isZero8 res)

/-- `Dec(slot)`: 16-bit without flags (R205), or 8-bit with Z (R202, R203). -/
def opDec (s : State) (slot : Slot) : State :=
  if isWide slot then writeSlot s slot (dec16 (readSlot s slot))
  else
    let res := dec8 (readSlot8 s slot)
    (writeSlot8 s slot res).setZ (isZero8 res)

/-- `Sub(slot)` (R206 to R208). -/
def opSub (s : State) (slot : Slot) : State :=
  (s.setA (sub8 s.a (readSlot8 s slot))).subFlags s.a (readSlot8 s slot)

/-- `Cp(slot)` (R209 to R211): the flags of the subtraction alone. -/
def opCp (s : State) (slot : Slot) : State := s.subFlags s.a (readSlot8 s slot)

/-- `Xor(slot)` (R212, R213) under a value of `XOR_FLAGS`. -/
def opXor (mode : XorFlags) (s : State) (slot : Slot) : State :=
  let res := xor8 s.a (readSlot8 s slot)
  (s.setA res).xorFlags mode res

/-- `Rla` (R230): Z is cleared whatever the result. -/
def opRla (s : State) : State := ((s.setA (rl8 s.a s.cy)).setCy (rl8Out s.a)).setZ false

/-- `Rl(slot)` (R231, R232). -/
def opRl (s : State) (slot : Slot) : State :=
  let v := readSlot8 s slot
  let res := rl8 v s.cy
  ((writeSlot8 s slot res).setCy (rl8Out v)).setZ (isZero8 res)

/-- `ComplBit(n, slot)` (R233, R234): Z is the complement of the bit. -/
def opComplBit (s : State) (n : Fin 8) (slot : Slot) : State := s.setZ (!(readSlot8 s slot).getLsbD n.val)

/-- `Push(p)` (44_stack.md R250). -/
def opPush (s : State) (p : Reg16) : State := s.push16 (s.reg16 p)

/-- `Pop(p)` (R252). -/
def opPop (s : State) (p : Reg16) : State := s.dropStack.setReg16 p s.stackTop

/-- `Halt` (45_control.md R261). -/
def opHalt (s : State) : State := s.setRun .halted

/-- `RelTarget(pc, e)` (R262): `e` is signed, and the sum wraps. -/
def relTarget (pc : Word) (e : Byte) : Word := pc + e.signExtend 16

/-- `JumpRMemOffset(e)` (R263). PC is the post-fetch PC. -/
def opJr (s : State) (e : Byte) : State := s.setPc (relTarget s.pc e)

/-- A relative jump taken when Z has a value, else nothing (R264, R265). -/
def opJrIfZ (s : State) (z : Bool) (e : Byte) : State := if s.z = z then opJr s e else s

/-- `Call(a)` (R266): push the post-fetch PC, then jump. -/
def opCall (s : State) (target : Word) : State := (s.push16 s.pc).setPc target

/-- `Ret` (R267). -/
def opRet (s : State) : State := s.dropStack.setPc s.stackTop

/-- What a term that passes the checks does to the state: one arm per variant (R160). -/
def perform (s : State) : Opcode → State
  | .nop => s
  | .halt => opHalt s
  | .ret => opRet s
  | .load dst src => opLoad s dst src
  | .call target => opCall s target
  | .inc slot => opInc s slot
  | .dec slot => opDec s slot
  | .cp slot => opCp s slot
  | .sub slot => opSub s slot
  | .ldInc r => opLdInc s r
  | .ldDec r => opLdDec s r
  | .rla => opRla s
  | .rl slot => opRl s slot
  | .push p => opPush s p
  | .pop p => opPop s p
  | .xor slot => opXor Config.xorFlags s slot
  | .complBit n slot => opComplBit s n slot
  | .jumpRMemOffset e => opJr s e
  | .jumpRNZMemOffset e => opJrIfZ s false e
  | .jumpRZMemOffset e => opJrIfZ s true e

/-- `Execute(op, t)` (R142): the checks first, then the effect. `t.pc` is the post-fetch PC. -/
def execute (op : Opcode) (t : State) : Except Failure State :=
  match checkTerm op with
  | some g => .error g
  | none => .ok (perform t op)

/-- The execute half of a cycle (R140), from the state before the cycle: advance PC past the instruction, execute, and on a
failure keep that state and take the failure. -/
def execTerm (op : Opcode) (s : State) : Result :=
  match execute op (s.fetched op.length) with
  | .ok t => .next t
  | .error g => .next (s.takeFailure g)

end Sys2Proof.Machine
end

