-- ==== Sys2Proof/Machine/Arith.lean ====
section
/-!
DEFINITION. Increment, decrement, subtract, compare and exclusive-or (42_arith_logic.md R200 to R214).
Each meaning is its row's decoded term run by the executor (40_executor.md R140, R142); what that term does is said once,
in Executor.lean.
-/

namespace Sys2Proof.Machine

/-- `INC BC` (R204). -/
def execIncBC (s : State) : Result := execTerm (.inc (.register16 .bc)) s

/-- `DEC BC` (R205). -/
def execDecBC (s : State) : Result := execTerm (.dec (.register16 .bc)) s

/-- `INC DE` (R204). -/
def execIncDE (s : State) : Result := execTerm (.inc (.register16 .de)) s

/-- `DEC DE` (R205). -/
def execDecDE (s : State) : Result := execTerm (.dec (.register16 .de)) s

/-- `INC HL` (R204). -/
def execIncHL (s : State) : Result := execTerm (.inc (.register16 .hl)) s

/-- `DEC HL` (R205). -/
def execDecHL (s : State) : Result := execTerm (.dec (.register16 .hl)) s

/-- `INC SP` (R204). -/
def execIncSP (s : State) : Result := execTerm (.inc (.register16 .sp)) s

/-- `DEC SP` (R205). -/
def execDecSP (s : State) : Result := execTerm (.dec (.register16 .sp)) s

/-- `INC B` (R200). -/
def execIncB (s : State) : Result := execTerm (.inc (.register8 .b)) s

/-- `DEC B` (R202). -/
def execDecB (s : State) : Result := execTerm (.dec (.register8 .b)) s

/-- `INC C` (R200). -/
def execIncC (s : State) : Result := execTerm (.inc (.register8 .c)) s

/-- `DEC C` (R202). -/
def execDecC (s : State) : Result := execTerm (.dec (.register8 .c)) s

/-- `INC D` (R200). -/
def execIncD (s : State) : Result := execTerm (.inc (.register8 .d)) s

/-- `DEC D` (R202). -/
def execDecD (s : State) : Result := execTerm (.dec (.register8 .d)) s

/-- `INC E` (R200). -/
def execIncE (s : State) : Result := execTerm (.inc (.register8 .e)) s

/-- `DEC E` (R202). -/
def execDecE (s : State) : Result := execTerm (.dec (.register8 .e)) s

/-- `INC H` (R200). -/
def execIncH (s : State) : Result := execTerm (.inc (.register8 .h)) s

/-- `DEC H` (R202). -/
def execDecH (s : State) : Result := execTerm (.dec (.register8 .h)) s

/-- `INC L` (R200). -/
def execIncL (s : State) : Result := execTerm (.inc (.register8 .l)) s

/-- `DEC L` (R202). -/
def execDecL (s : State) : Result := execTerm (.dec (.register8 .l)) s

/-- `INC (HL)` (R201). -/
def execIncIndHL (s : State) : Result := execTerm (.inc (.addrRegister .hl)) s

/-- `DEC (HL)` (R203). -/
def execDecIndHL (s : State) : Result := execTerm (.dec (.addrRegister .hl)) s

/-- `INC A` (R200). -/
def execIncA (s : State) : Result := execTerm (.inc (.register8 .a)) s

/-- `DEC A` (R202). -/
def execDecA (s : State) : Result := execTerm (.dec (.register8 .a)) s

/-- `SUB B` (R206). -/
def execSubB (s : State) : Result := execTerm (.sub (.register8 .b)) s

/-- `XOR B` (R212). -/
def execXorB (s : State) : Result := execTerm (.xor (.register8 .b)) s

/-- `CP B` (R209). -/
def execCpB (s : State) : Result := execTerm (.cp (.register8 .b)) s

/-- `SUB C` (R206). -/
def execSubC (s : State) : Result := execTerm (.sub (.register8 .c)) s

/-- `XOR C` (R212). -/
def execXorC (s : State) : Result := execTerm (.xor (.register8 .c)) s

/-- `CP C` (R209). -/
def execCpC (s : State) : Result := execTerm (.cp (.register8 .c)) s

/-- `SUB D` (R206). -/
def execSubD (s : State) : Result := execTerm (.sub (.register8 .d)) s

/-- `XOR D` (R212). -/
def execXorD (s : State) : Result := execTerm (.xor (.register8 .d)) s

/-- `CP D` (R209). -/
def execCpD (s : State) : Result := execTerm (.cp (.register8 .d)) s

/-- `SUB E` (R206). -/
def execSubE (s : State) : Result := execTerm (.sub (.register8 .e)) s

/-- `XOR E` (R212). -/
def execXorE (s : State) : Result := execTerm (.xor (.register8 .e)) s

/-- `CP E` (R209). -/
def execCpE (s : State) : Result := execTerm (.cp (.register8 .e)) s

/-- `SUB H` (R206). -/
def execSubH (s : State) : Result := execTerm (.sub (.register8 .h)) s

/-- `XOR H` (R212). -/
def execXorH (s : State) : Result := execTerm (.xor (.register8 .h)) s

/-- `CP H` (R209). -/
def execCpH (s : State) : Result := execTerm (.cp (.register8 .h)) s

/-- `SUB L` (R206). -/
def execSubL (s : State) : Result := execTerm (.sub (.register8 .l)) s

/-- `XOR L` (R212). -/
def execXorL (s : State) : Result := execTerm (.xor (.register8 .l)) s

/-- `CP L` (R209). -/
def execCpL (s : State) : Result := execTerm (.cp (.register8 .l)) s

/-- `SUB (HL)` (R207). -/
def execSubIndHL (s : State) : Result := execTerm (.sub (.addrRegister .hl)) s

/-- `XOR (HL)` (R213). -/
def execXorIndHL (s : State) : Result := execTerm (.xor (.addrRegister .hl)) s

/-- `CP (HL)` (R210). -/
def execCpIndHL (s : State) : Result := execTerm (.cp (.addrRegister .hl)) s

/-- `SUB A` (R206). -/
def execSubA (s : State) : Result := execTerm (.sub (.register8 .a)) s

/-- `XOR A` (R212). -/
def execXorA (s : State) : Result := execTerm (.xor (.register8 .a)) s

/-- `CP A` (R209). -/
def execCpA (s : State) : Result := execTerm (.cp (.register8 .a)) s

/-- `SUB d8` (R208). -/
def execSubD8 (n : Byte) (s : State) : Result := execTerm (.sub (.data8 n)) s

/-- `CP d8` (R211). -/
def execCpD8 (n : Byte) (s : State) : Result := execTerm (.cp (.data8 n)) s

end Sys2Proof.Machine
end

