-- ==== Sys2Proof/Machine/BitRotate.lean ====
section
/-!
DEFINITION. Rotate left and bit test (43_bit_rotate.md R230 to R235).
Each meaning is its row's decoded term run by the executor (40_executor.md R140, R142); what that term does is said once,
in Executor.lean.
-/

namespace Sys2Proof.Machine

/-- `RLA` (R230). -/
def execRla (s : State) : Result := execTerm .rla s

/-- `RL B` (R231). -/
def execRlB (s : State) : Result := execTerm (.rl (.register8 .b)) s

/-- `RL C` (R231). -/
def execRlC (s : State) : Result := execTerm (.rl (.register8 .c)) s

/-- `RL D` (R231). -/
def execRlD (s : State) : Result := execTerm (.rl (.register8 .d)) s

/-- `RL E` (R231). -/
def execRlE (s : State) : Result := execTerm (.rl (.register8 .e)) s

/-- `RL H` (R231). -/
def execRlH (s : State) : Result := execTerm (.rl (.register8 .h)) s

/-- `RL L` (R231). -/
def execRlL (s : State) : Result := execTerm (.rl (.register8 .l)) s

/-- `RL (HL)` (R232). -/
def execRlIndHL (s : State) : Result := execTerm (.rl (.addrRegister .hl)) s

/-- `RL A` (R231). -/
def execRlA (s : State) : Result := execTerm (.rl (.register8 .a)) s

/-- `BIT 0,B` (R233). -/
def execBit0_B (s : State) : Result := execTerm (.complBit 0 (.register8 .b)) s

/-- `BIT 0,C` (R233). -/
def execBit0_C (s : State) : Result := execTerm (.complBit 0 (.register8 .c)) s

/-- `BIT 0,D` (R233). -/
def execBit0_D (s : State) : Result := execTerm (.complBit 0 (.register8 .d)) s

/-- `BIT 0,E` (R233). -/
def execBit0_E (s : State) : Result := execTerm (.complBit 0 (.register8 .e)) s

/-- `BIT 0,H` (R233). -/
def execBit0_H (s : State) : Result := execTerm (.complBit 0 (.register8 .h)) s

/-- `BIT 0,L` (R233). -/
def execBit0_L (s : State) : Result := execTerm (.complBit 0 (.register8 .l)) s

/-- `BIT 0,(HL)` (R234). -/
def execBit0_IndHL (s : State) : Result := execTerm (.complBit 0 (.addrRegister .hl)) s

/-- `BIT 0,A` (R233). -/
def execBit0_A (s : State) : Result := execTerm (.complBit 0 (.register8 .a)) s

/-- `BIT 1,B` (R233). -/
def execBit1_B (s : State) : Result := execTerm (.complBit 1 (.register8 .b)) s

/-- `BIT 1,C` (R233). -/
def execBit1_C (s : State) : Result := execTerm (.complBit 1 (.register8 .c)) s

/-- `BIT 1,D` (R233). -/
def execBit1_D (s : State) : Result := execTerm (.complBit 1 (.register8 .d)) s

/-- `BIT 1,E` (R233). -/
def execBit1_E (s : State) : Result := execTerm (.complBit 1 (.register8 .e)) s

/-- `BIT 1,H` (R233). -/
def execBit1_H (s : State) : Result := execTerm (.complBit 1 (.register8 .h)) s

/-- `BIT 1,L` (R233). -/
def execBit1_L (s : State) : Result := execTerm (.complBit 1 (.register8 .l)) s

/-- `BIT 1,(HL)` (R234). -/
def execBit1_IndHL (s : State) : Result := execTerm (.complBit 1 (.addrRegister .hl)) s

/-- `BIT 1,A` (R233). -/
def execBit1_A (s : State) : Result := execTerm (.complBit 1 (.register8 .a)) s

/-- `BIT 2,B` (R233). -/
def execBit2_B (s : State) : Result := execTerm (.complBit 2 (.register8 .b)) s

/-- `BIT 2,C` (R233). -/
def execBit2_C (s : State) : Result := execTerm (.complBit 2 (.register8 .c)) s

/-- `BIT 2,D` (R233). -/
def execBit2_D (s : State) : Result := execTerm (.complBit 2 (.register8 .d)) s

/-- `BIT 2,E` (R233). -/
def execBit2_E (s : State) : Result := execTerm (.complBit 2 (.register8 .e)) s

/-- `BIT 2,H` (R233). -/
def execBit2_H (s : State) : Result := execTerm (.complBit 2 (.register8 .h)) s

/-- `BIT 2,L` (R233). -/
def execBit2_L (s : State) : Result := execTerm (.complBit 2 (.register8 .l)) s

/-- `BIT 2,(HL)` (R234). -/
def execBit2_IndHL (s : State) : Result := execTerm (.complBit 2 (.addrRegister .hl)) s

/-- `BIT 2,A` (R233). -/
def execBit2_A (s : State) : Result := execTerm (.complBit 2 (.register8 .a)) s

/-- `BIT 3,B` (R233). -/
def execBit3_B (s : State) : Result := execTerm (.complBit 3 (.register8 .b)) s

/-- `BIT 3,C` (R233). -/
def execBit3_C (s : State) : Result := execTerm (.complBit 3 (.register8 .c)) s

/-- `BIT 3,D` (R233). -/
def execBit3_D (s : State) : Result := execTerm (.complBit 3 (.register8 .d)) s

/-- `BIT 3,E` (R233). -/
def execBit3_E (s : State) : Result := execTerm (.complBit 3 (.register8 .e)) s

/-- `BIT 3,H` (R233). -/
def execBit3_H (s : State) : Result := execTerm (.complBit 3 (.register8 .h)) s

/-- `BIT 3,L` (R233). -/
def execBit3_L (s : State) : Result := execTerm (.complBit 3 (.register8 .l)) s

/-- `BIT 3,(HL)` (R234). -/
def execBit3_IndHL (s : State) : Result := execTerm (.complBit 3 (.addrRegister .hl)) s

/-- `BIT 3,A` (R233). -/
def execBit3_A (s : State) : Result := execTerm (.complBit 3 (.register8 .a)) s

/-- `BIT 4,B` (R233). -/
def execBit4_B (s : State) : Result := execTerm (.complBit 4 (.register8 .b)) s

/-- `BIT 4,C` (R233). -/
def execBit4_C (s : State) : Result := execTerm (.complBit 4 (.register8 .c)) s

/-- `BIT 4,D` (R233). -/
def execBit4_D (s : State) : Result := execTerm (.complBit 4 (.register8 .d)) s

/-- `BIT 4,E` (R233). -/
def execBit4_E (s : State) : Result := execTerm (.complBit 4 (.register8 .e)) s

/-- `BIT 4,H` (R233). -/
def execBit4_H (s : State) : Result := execTerm (.complBit 4 (.register8 .h)) s

/-- `BIT 4,L` (R233). -/
def execBit4_L (s : State) : Result := execTerm (.complBit 4 (.register8 .l)) s

/-- `BIT 4,(HL)` (R234). -/
def execBit4_IndHL (s : State) : Result := execTerm (.complBit 4 (.addrRegister .hl)) s

/-- `BIT 4,A` (R233). -/
def execBit4_A (s : State) : Result := execTerm (.complBit 4 (.register8 .a)) s

/-- `BIT 5,B` (R233). -/
def execBit5_B (s : State) : Result := execTerm (.complBit 5 (.register8 .b)) s

/-- `BIT 5,C` (R233). -/
def execBit5_C (s : State) : Result := execTerm (.complBit 5 (.register8 .c)) s

/-- `BIT 5,D` (R233). -/
def execBit5_D (s : State) : Result := execTerm (.complBit 5 (.register8 .d)) s

/-- `BIT 5,E` (R233). -/
def execBit5_E (s : State) : Result := execTerm (.complBit 5 (.register8 .e)) s

/-- `BIT 5,H` (R233). -/
def execBit5_H (s : State) : Result := execTerm (.complBit 5 (.register8 .h)) s

/-- `BIT 5,L` (R233). -/
def execBit5_L (s : State) : Result := execTerm (.complBit 5 (.register8 .l)) s

/-- `BIT 5,(HL)` (R234). -/
def execBit5_IndHL (s : State) : Result := execTerm (.complBit 5 (.addrRegister .hl)) s

/-- `BIT 5,A` (R233). -/
def execBit5_A (s : State) : Result := execTerm (.complBit 5 (.register8 .a)) s

/-- `BIT 6,B` (R233). -/
def execBit6_B (s : State) : Result := execTerm (.complBit 6 (.register8 .b)) s

/-- `BIT 6,C` (R233). -/
def execBit6_C (s : State) : Result := execTerm (.complBit 6 (.register8 .c)) s

/-- `BIT 6,D` (R233). -/
def execBit6_D (s : State) : Result := execTerm (.complBit 6 (.register8 .d)) s

/-- `BIT 6,E` (R233). -/
def execBit6_E (s : State) : Result := execTerm (.complBit 6 (.register8 .e)) s

/-- `BIT 6,H` (R233). -/
def execBit6_H (s : State) : Result := execTerm (.complBit 6 (.register8 .h)) s

/-- `BIT 6,L` (R233). -/
def execBit6_L (s : State) : Result := execTerm (.complBit 6 (.register8 .l)) s

/-- `BIT 6,(HL)` (R234). -/
def execBit6_IndHL (s : State) : Result := execTerm (.complBit 6 (.addrRegister .hl)) s

/-- `BIT 6,A` (R233). -/
def execBit6_A (s : State) : Result := execTerm (.complBit 6 (.register8 .a)) s

/-- `BIT 7,B` (R233). -/
def execBit7_B (s : State) : Result := execTerm (.complBit 7 (.register8 .b)) s

/-- `BIT 7,C` (R233). -/
def execBit7_C (s : State) : Result := execTerm (.complBit 7 (.register8 .c)) s

/-- `BIT 7,D` (R233). -/
def execBit7_D (s : State) : Result := execTerm (.complBit 7 (.register8 .d)) s

/-- `BIT 7,E` (R233). -/
def execBit7_E (s : State) : Result := execTerm (.complBit 7 (.register8 .e)) s

/-- `BIT 7,H` (R233). -/
def execBit7_H (s : State) : Result := execTerm (.complBit 7 (.register8 .h)) s

/-- `BIT 7,L` (R233). -/
def execBit7_L (s : State) : Result := execTerm (.complBit 7 (.register8 .l)) s

/-- `BIT 7,(HL)` (R234). -/
def execBit7_IndHL (s : State) : Result := execTerm (.complBit 7 (.addrRegister .hl)) s

/-- `BIT 7,A` (R233). -/
def execBit7_A (s : State) : Result := execTerm (.complBit 7 (.register8 .a)) s

end Sys2Proof.Machine
end

