-- ==== Sys2Proof/Machine/Control.lean ====
section
/-!
DEFINITION. Control transfer and system instructions (45_control.md R260 to R267).
Each meaning is its row's decoded term run by the executor (40_executor.md R140, R142); what that term does is said once,
in Executor.lean.
-/

namespace Sys2Proof.Machine

/-- `NOP` (R260). -/
def execNop (s : State) : Result := execTerm .nop s

/-- `JR e` (R263). -/
def execJr (e : Byte) (s : State) : Result := execTerm (.jumpRMemOffset e) s

/-- `JR NZ,e` (R264). -/
def execJrNZ (e : Byte) (s : State) : Result := execTerm (.jumpRNZMemOffset e) s

/-- `JR Z,e` (R265). -/
def execJrZ (e : Byte) (s : State) : Result := execTerm (.jumpRZMemOffset e) s

/-- `HALT` (R261). -/
def execHalt (s : State) : Result := execTerm .halt s

/-- `RET` (R267). -/
def execRet (s : State) : Result := execTerm .ret s

/-- `CALL a16` (R266). -/
def execCall (nn : Word) (s : State) : Result := execTerm (.call nn) s

end Sys2Proof.Machine
end

