-- ==== Sys2Proof/Machine/Load.lean ====
section
/-!
DEFINITION. The load family (41_load.md R171 to R186): the generic load (R170) and the two post-updating stores.
Each meaning is its row's decoded term run by the executor (40_executor.md R140, R142); what that term does is said once,
in Executor.lean.
-/

namespace Sys2Proof.Machine

/-- `LD BC,d16` (R176). -/
def execLdBC_d16 (nn : Word) (s : State) : Result := execTerm (.load (.register16 .bc) (.data16 nn)) s

/-- `LD DE,d16` (R176). -/
def execLdDE_d16 (nn : Word) (s : State) : Result := execTerm (.load (.register16 .de) (.data16 nn)) s

/-- `LD HL,d16` (R176). -/
def execLdHL_d16 (nn : Word) (s : State) : Result := execTerm (.load (.register16 .hl) (.data16 nn)) s

/-- `LD SP,d16` (R176). -/
def execLdSP_d16 (nn : Word) (s : State) : Result := execTerm (.load (.register16 .sp) (.data16 nn)) s

/-- `LD (BC),A` (R177). -/
def execLdIndBC_A (s : State) : Result := execTerm (.load (.addrRegister .bc) (.register8 .a)) s

/-- `LD (DE),A` (R177). -/
def execLdIndDE_A (s : State) : Result := execTerm (.load (.addrRegister .de) (.register8 .a)) s

/-- `LD A,(BC)` (R178). -/
def execLdA_IndBC (s : State) : Result := execTerm (.load (.register8 .a) (.addrRegister .bc)) s

/-- `LD A,(DE)` (R178). -/
def execLdA_IndDE (s : State) : Result := execTerm (.load (.register8 .a) (.addrRegister .de)) s

/-- `LD (HL+),A` (R179). -/
def execLdHLinc_A (s : State) : Result := execTerm (.ldInc .a) s

/-- `LD (HL-),A` (R180). -/
def execLdHLdec_A (s : State) : Result := execTerm (.ldDec .a) s

/-- `LD B,d8` (R174). -/
def execLdB_d8 (n : Byte) (s : State) : Result := execTerm (.load (.register8 .b) (.data8 n)) s

/-- `LD C,d8` (R174). -/
def execLdC_d8 (n : Byte) (s : State) : Result := execTerm (.load (.register8 .c) (.data8 n)) s

/-- `LD D,d8` (R174). -/
def execLdD_d8 (n : Byte) (s : State) : Result := execTerm (.load (.register8 .d) (.data8 n)) s

/-- `LD E,d8` (R174). -/
def execLdE_d8 (n : Byte) (s : State) : Result := execTerm (.load (.register8 .e) (.data8 n)) s

/-- `LD H,d8` (R174). -/
def execLdH_d8 (n : Byte) (s : State) : Result := execTerm (.load (.register8 .h) (.data8 n)) s

/-- `LD L,d8` (R174). -/
def execLdL_d8 (n : Byte) (s : State) : Result := execTerm (.load (.register8 .l) (.data8 n)) s

/-- `LD (HL),d8` (R175). -/
def execLdIndHL_d8 (n : Byte) (s : State) : Result := execTerm (.load (.addrRegister .hl) (.data8 n)) s

/-- `LD A,d8` (R174). -/
def execLdA_d8 (n : Byte) (s : State) : Result := execTerm (.load (.register8 .a) (.data8 n)) s

/-- `LD B,B` (R171). -/
def execLdB_B (s : State) : Result := execTerm (.load (.register8 .b) (.register8 .b)) s

/-- `LD B,C` (R171). -/
def execLdB_C (s : State) : Result := execTerm (.load (.register8 .b) (.register8 .c)) s

/-- `LD B,D` (R171). -/
def execLdB_D (s : State) : Result := execTerm (.load (.register8 .b) (.register8 .d)) s

/-- `LD B,E` (R171). -/
def execLdB_E (s : State) : Result := execTerm (.load (.register8 .b) (.register8 .e)) s

/-- `LD B,H` (R171). -/
def execLdB_H (s : State) : Result := execTerm (.load (.register8 .b) (.register8 .h)) s

/-- `LD B,L` (R171). -/
def execLdB_L (s : State) : Result := execTerm (.load (.register8 .b) (.register8 .l)) s

/-- `LD B,(HL)` (R172). -/
def execLdB_IndHL (s : State) : Result := execTerm (.load (.register8 .b) (.addrRegister .hl)) s

/-- `LD B,A` (R171). -/
def execLdB_A (s : State) : Result := execTerm (.load (.register8 .b) (.register8 .a)) s

/-- `LD C,B` (R171). -/
def execLdC_B (s : State) : Result := execTerm (.load (.register8 .c) (.register8 .b)) s

/-- `LD C,C` (R171). -/
def execLdC_C (s : State) : Result := execTerm (.load (.register8 .c) (.register8 .c)) s

/-- `LD C,D` (R171). -/
def execLdC_D (s : State) : Result := execTerm (.load (.register8 .c) (.register8 .d)) s

/-- `LD C,E` (R171). -/
def execLdC_E (s : State) : Result := execTerm (.load (.register8 .c) (.register8 .e)) s

/-- `LD C,H` (R171). -/
def execLdC_H (s : State) : Result := execTerm (.load (.register8 .c) (.register8 .h)) s

/-- `LD C,L` (R171). -/
def execLdC_L (s : State) : Result := execTerm (.load (.register8 .c) (.register8 .l)) s

/-- `LD C,(HL)` (R172). -/
def execLdC_IndHL (s : State) : Result := execTerm (.load (.register8 .c) (.addrRegister .hl)) s

/-- `LD C,A` (R171). -/
def execLdC_A (s : State) : Result := execTerm (.load (.register8 .c) (.register8 .a)) s

/-- `LD D,B` (R171). -/
def execLdD_B (s : State) : Result := execTerm (.load (.register8 .d) (.register8 .b)) s

/-- `LD D,C` (R171). -/
def execLdD_C (s : State) : Result := execTerm (.load (.register8 .d) (.register8 .c)) s

/-- `LD D,D` (R171). -/
def execLdD_D (s : State) : Result := execTerm (.load (.register8 .d) (.register8 .d)) s

/-- `LD D,E` (R171). -/
def execLdD_E (s : State) : Result := execTerm (.load (.register8 .d) (.register8 .e)) s

/-- `LD D,H` (R171). -/
def execLdD_H (s : State) : Result := execTerm (.load (.register8 .d) (.register8 .h)) s

/-- `LD D,L` (R171). -/
def execLdD_L (s : State) : Result := execTerm (.load (.register8 .d) (.register8 .l)) s

/-- `LD D,(HL)` (R172). -/
def execLdD_IndHL (s : State) : Result := execTerm (.load (.register8 .d) (.addrRegister .hl)) s

/-- `LD D,A` (R171). -/
def execLdD_A (s : State) : Result := execTerm (.load (.register8 .d) (.register8 .a)) s

/-- `LD E,B` (R171). -/
def execLdE_B (s : State) : Result := execTerm (.load (.register8 .e) (.register8 .b)) s

/-- `LD E,C` (R171). -/
def execLdE_C (s : State) : Result := execTerm (.load (.register8 .e) (.register8 .c)) s

/-- `LD E,D` (R171). -/
def execLdE_D (s : State) : Result := execTerm (.load (.register8 .e) (.register8 .d)) s

/-- `LD E,E` (R171). -/
def execLdE_E (s : State) : Result := execTerm (.load (.register8 .e) (.register8 .e)) s

/-- `LD E,H` (R171). -/
def execLdE_H (s : State) : Result := execTerm (.load (.register8 .e) (.register8 .h)) s

/-- `LD E,L` (R171). -/
def execLdE_L (s : State) : Result := execTerm (.load (.register8 .e) (.register8 .l)) s

/-- `LD E,(HL)` (R172). -/
def execLdE_IndHL (s : State) : Result := execTerm (.load (.register8 .e) (.addrRegister .hl)) s

/-- `LD E,A` (R171). -/
def execLdE_A (s : State) : Result := execTerm (.load (.register8 .e) (.register8 .a)) s

/-- `LD H,B` (R171). -/
def execLdH_B (s : State) : Result := execTerm (.load (.register8 .h) (.register8 .b)) s

/-- `LD H,C` (R171). -/
def execLdH_C (s : State) : Result := execTerm (.load (.register8 .h) (.register8 .c)) s

/-- `LD H,D` (R171). -/
def execLdH_D (s : State) : Result := execTerm (.load (.register8 .h) (.register8 .d)) s

/-- `LD H,E` (R171). -/
def execLdH_E (s : State) : Result := execTerm (.load (.register8 .h) (.register8 .e)) s

/-- `LD H,H` (R171). -/
def execLdH_H (s : State) : Result := execTerm (.load (.register8 .h) (.register8 .h)) s

/-- `LD H,L` (R171). -/
def execLdH_L (s : State) : Result := execTerm (.load (.register8 .h) (.register8 .l)) s

/-- `LD H,(HL)` (R172). -/
def execLdH_IndHL (s : State) : Result := execTerm (.load (.register8 .h) (.addrRegister .hl)) s

/-- `LD H,A` (R171). -/
def execLdH_A (s : State) : Result := execTerm (.load (.register8 .h) (.register8 .a)) s

/-- `LD L,B` (R171). -/
def execLdL_B (s : State) : Result := execTerm (.load (.register8 .l) (.register8 .b)) s

/-- `LD L,C` (R171). -/
def execLdL_C (s : State) : Result := execTerm (.load (.register8 .l) (.register8 .c)) s

/-- `LD L,D` (R171). -/
def execLdL_D (s : State) : Result := execTerm (.load (.register8 .l) (.register8 .d)) s

/-- `LD L,E` (R171). -/
def execLdL_E (s : State) : Result := execTerm (.load (.register8 .l) (.register8 .e)) s

/-- `LD L,H` (R171). -/
def execLdL_H (s : State) : Result := execTerm (.load (.register8 .l) (.register8 .h)) s

/-- `LD L,L` (R171). -/
def execLdL_L (s : State) : Result := execTerm (.load (.register8 .l) (.register8 .l)) s

/-- `LD L,(HL)` (R172). -/
def execLdL_IndHL (s : State) : Result := execTerm (.load (.register8 .l) (.addrRegister .hl)) s

/-- `LD L,A` (R171). -/
def execLdL_A (s : State) : Result := execTerm (.load (.register8 .l) (.register8 .a)) s

/-- `LD (HL),B` (R173). -/
def execLdIndHL_B (s : State) : Result := execTerm (.load (.addrRegister .hl) (.register8 .b)) s

/-- `LD (HL),C` (R173). -/
def execLdIndHL_C (s : State) : Result := execTerm (.load (.addrRegister .hl) (.register8 .c)) s

/-- `LD (HL),D` (R173). -/
def execLdIndHL_D (s : State) : Result := execTerm (.load (.addrRegister .hl) (.register8 .d)) s

/-- `LD (HL),E` (R173). -/
def execLdIndHL_E (s : State) : Result := execTerm (.load (.addrRegister .hl) (.register8 .e)) s

/-- `LD (HL),H` (R173). -/
def execLdIndHL_H (s : State) : Result := execTerm (.load (.addrRegister .hl) (.register8 .h)) s

/-- `LD (HL),L` (R173). -/
def execLdIndHL_L (s : State) : Result := execTerm (.load (.addrRegister .hl) (.register8 .l)) s

/-- `LD (HL),A` (R173). -/
def execLdIndHL_A (s : State) : Result := execTerm (.load (.addrRegister .hl) (.register8 .a)) s

/-- `LD A,B` (R171). -/
def execLdA_B (s : State) : Result := execTerm (.load (.register8 .a) (.register8 .b)) s

/-- `LD A,C` (R171). -/
def execLdA_C (s : State) : Result := execTerm (.load (.register8 .a) (.register8 .c)) s

/-- `LD A,D` (R171). -/
def execLdA_D (s : State) : Result := execTerm (.load (.register8 .a) (.register8 .d)) s

/-- `LD A,E` (R171). -/
def execLdA_E (s : State) : Result := execTerm (.load (.register8 .a) (.register8 .e)) s

/-- `LD A,H` (R171). -/
def execLdA_H (s : State) : Result := execTerm (.load (.register8 .a) (.register8 .h)) s

/-- `LD A,L` (R171). -/
def execLdA_L (s : State) : Result := execTerm (.load (.register8 .a) (.register8 .l)) s

/-- `LD A,(HL)` (R172). -/
def execLdA_IndHL (s : State) : Result := execTerm (.load (.register8 .a) (.addrRegister .hl)) s

/-- `LD A,A` (R171). -/
def execLdA_A (s : State) : Result := execTerm (.load (.register8 .a) (.register8 .a)) s

/-- `LDH (a8),A` (R181). -/
def execLdhIndA8_A (n : Byte) (s : State) : Result := execTerm (.load (.addr8 n) (.register8 .a)) s

/-- `LDH A,(a8)` (R182). -/
def execLdhA_IndA8 (n : Byte) (s : State) : Result := execTerm (.load (.register8 .a) (.addr8 n)) s

/-- `LD (C),A` (R183). -/
def execLdIndC_A (s : State) : Result := execTerm (.load (.addrRegister .c) (.register8 .a)) s

/-- `LD A,(C)` (R184). -/
def execLdA_IndC (s : State) : Result := execTerm (.load (.register8 .a) (.addrRegister .c)) s

/-- `LD (a16),A` (R185). -/
def execLdIndA16_A (nn : Word) (s : State) : Result := execTerm (.load (.addr16 nn) (.register8 .a)) s

/-- `LD A,(a16)` (R186). -/
def execLdA_IndA16 (nn : Word) (s : State) : Result := execTerm (.load (.register8 .a) (.addr16 nn)) s

end Sys2Proof.Machine
end

