-- ==== Sys2Proof/Machine/Stack.lean ====
section
/-!
DEFINITION. Stack push and pop (44_stack.md R250 to R253). PUSH AF and POP AF fail, so their meaning enters `Faulted`.
Each meaning is its row's decoded term run by the executor (40_executor.md R140, R142); what that term does is said once,
in Executor.lean.
-/

namespace Sys2Proof.Machine

/-- `POP BC` (R252). -/
def execPopBC (s : State) : Result := execTerm (.pop .bc) s

/-- `PUSH BC` (R250). -/
def execPushBC (s : State) : Result := execTerm (.push .bc) s

/-- `POP DE` (R252). -/
def execPopDE (s : State) : Result := execTerm (.pop .de) s

/-- `PUSH DE` (R250). -/
def execPushDE (s : State) : Result := execTerm (.push .de) s

/-- `POP HL` (R252). -/
def execPopHL (s : State) : Result := execTerm (.pop .hl) s

/-- `PUSH HL` (R250). -/
def execPushHL (s : State) : Result := execTerm (.push .hl) s

/-- `POP AF` (R253). -/
def execPopAF (s : State) : Result := execTerm (.pop .af) s

/-- `PUSH AF` (R251). -/
def execPushAF (s : State) : Result := execTerm (.push .af) s

end Sys2Proof.Machine
end

