-- ==== Sys2Proof/Machine/Dispatch.lean ====
section
/-!
DEFINITION. One arm per instruction: `exec i s` is the meaning of `i` in the state `s` whose PC is the address of `i`'s first byte.
-/

namespace Sys2Proof.Machine

def exec (i : Instr) (s : State) : Host.Outcome State Fault Refusal :=
  match i with
  | .nop => Sys2Proof.Machine.execNop s
  | .ldBC_d16 nn => Sys2Proof.Machine.execLdBC_d16 nn s
  | .incBC => Sys2Proof.Machine.execIncBC s
  | .decBC => Sys2Proof.Machine.execDecBC s
  | .ldDE_d16 nn => Sys2Proof.Machine.execLdDE_d16 nn s
  | .incDE => Sys2Proof.Machine.execIncDE s
  | .decDE => Sys2Proof.Machine.execDecDE s
  | .ldHL_d16 nn => Sys2Proof.Machine.execLdHL_d16 nn s
  | .incHL => Sys2Proof.Machine.execIncHL s
  | .decHL => Sys2Proof.Machine.execDecHL s
  | .ldSP_d16 nn => Sys2Proof.Machine.execLdSP_d16 nn s
  | .incSP => Sys2Proof.Machine.execIncSP s
  | .decSP => Sys2Proof.Machine.execDecSP s
  | .ldIndBC_A => Sys2Proof.Machine.execLdIndBC_A s
  | .ldIndDE_A => Sys2Proof.Machine.execLdIndDE_A s
  | .ldA_IndBC => Sys2Proof.Machine.execLdA_IndBC s
  | .ldA_IndDE => Sys2Proof.Machine.execLdA_IndDE s
  | .ldHLinc_A => Sys2Proof.Machine.execLdHLinc_A s
  | .ldHLdec_A => Sys2Proof.Machine.execLdHLdec_A s
  | .incB => Sys2Proof.Machine.execIncB s
  | .decB => Sys2Proof.Machine.execDecB s
  | .ldB_d8 n => Sys2Proof.Machine.execLdB_d8 n s
  | .incC => Sys2Proof.Machine.execIncC s
  | .decC => Sys2Proof.Machine.execDecC s
  | .ldC_d8 n => Sys2Proof.Machine.execLdC_d8 n s
  | .incD => Sys2Proof.Machine.execIncD s
  | .decD => Sys2Proof.Machine.execDecD s
  | .ldD_d8 n => Sys2Proof.Machine.execLdD_d8 n s
  | .incE => Sys2Proof.Machine.execIncE s
  | .decE => Sys2Proof.Machine.execDecE s
  | .ldE_d8 n => Sys2Proof.Machine.execLdE_d8 n s
  | .incH => Sys2Proof.Machine.execIncH s
  | .decH => Sys2Proof.Machine.execDecH s
  | .ldH_d8 n => Sys2Proof.Machine.execLdH_d8 n s
  | .incL => Sys2Proof.Machine.execIncL s
  | .decL => Sys2Proof.Machine.execDecL s
  | .ldL_d8 n => Sys2Proof.Machine.execLdL_d8 n s
  | .incIndHL => Sys2Proof.Machine.execIncIndHL s
  | .decIndHL => Sys2Proof.Machine.execDecIndHL s
  | .ldIndHL_d8 n => Sys2Proof.Machine.execLdIndHL_d8 n s
  | .incA => Sys2Proof.Machine.execIncA s
  | .decA => Sys2Proof.Machine.execDecA s
  | .ldA_d8 n => Sys2Proof.Machine.execLdA_d8 n s
  | .rla => Sys2Proof.Machine.execRla s
  | .jr e => Sys2Proof.Machine.execJr e s
  | .jrNZ e => Sys2Proof.Machine.execJrNZ e s
  | .jrZ e => Sys2Proof.Machine.execJrZ e s
  | .ldB_B => Sys2Proof.Machine.execLdB_B s
  | .ldB_C => Sys2Proof.Machine.execLdB_C s
  | .ldB_D => Sys2Proof.Machine.execLdB_D s
  | .ldB_E => Sys2Proof.Machine.execLdB_E s
  | .ldB_H => Sys2Proof.Machine.execLdB_H s
  | .ldB_L => Sys2Proof.Machine.execLdB_L s
  | .ldB_IndHL => Sys2Proof.Machine.execLdB_IndHL s
  | .ldB_A => Sys2Proof.Machine.execLdB_A s
  | .ldC_B => Sys2Proof.Machine.execLdC_B s
  | .ldC_C => Sys2Proof.Machine.execLdC_C s
  | .ldC_D => Sys2Proof.Machine.execLdC_D s
  | .ldC_E => Sys2Proof.Machine.execLdC_E s
  | .ldC_H => Sys2Proof.Machine.execLdC_H s
  | .ldC_L => Sys2Proof.Machine.execLdC_L s
  | .ldC_IndHL => Sys2Proof.Machine.execLdC_IndHL s
  | .ldC_A => Sys2Proof.Machine.execLdC_A s
  | .ldD_B => Sys2Proof.Machine.execLdD_B s
  | .ldD_C => Sys2Proof.Machine.execLdD_C s
  | .ldD_D => Sys2Proof.Machine.execLdD_D s
  | .ldD_E => Sys2Proof.Machine.execLdD_E s
  | .ldD_H => Sys2Proof.Machine.execLdD_H s
  | .ldD_L => Sys2Proof.Machine.execLdD_L s
  | .ldD_IndHL => Sys2Proof.Machine.execLdD_IndHL s
  | .ldD_A => Sys2Proof.Machine.execLdD_A s
  | .ldE_B => Sys2Proof.Machine.execLdE_B s
  | .ldE_C => Sys2Proof.Machine.execLdE_C s
  | .ldE_D => Sys2Proof.Machine.execLdE_D s
  | .ldE_E => Sys2Proof.Machine.execLdE_E s
  | .ldE_H => Sys2Proof.Machine.execLdE_H s
  | .ldE_L => Sys2Proof.Machine.execLdE_L s
  | .ldE_IndHL => Sys2Proof.Machine.execLdE_IndHL s
  | .ldE_A => Sys2Proof.Machine.execLdE_A s
  | .ldH_B => Sys2Proof.Machine.execLdH_B s
  | .ldH_C => Sys2Proof.Machine.execLdH_C s
  | .ldH_D => Sys2Proof.Machine.execLdH_D s
  | .ldH_E => Sys2Proof.Machine.execLdH_E s
  | .ldH_H => Sys2Proof.Machine.execLdH_H s
  | .ldH_L => Sys2Proof.Machine.execLdH_L s
  | .ldH_IndHL => Sys2Proof.Machine.execLdH_IndHL s
  | .ldH_A => Sys2Proof.Machine.execLdH_A s
  | .ldL_B => Sys2Proof.Machine.execLdL_B s
  | .ldL_C => Sys2Proof.Machine.execLdL_C s
  | .ldL_D => Sys2Proof.Machine.execLdL_D s
  | .ldL_E => Sys2Proof.Machine.execLdL_E s
  | .ldL_H => Sys2Proof.Machine.execLdL_H s
  | .ldL_L => Sys2Proof.Machine.execLdL_L s
  | .ldL_IndHL => Sys2Proof.Machine.execLdL_IndHL s
  | .ldL_A => Sys2Proof.Machine.execLdL_A s
  | .ldIndHL_B => Sys2Proof.Machine.execLdIndHL_B s
  | .ldIndHL_C => Sys2Proof.Machine.execLdIndHL_C s
  | .ldIndHL_D => Sys2Proof.Machine.execLdIndHL_D s
  | .ldIndHL_E => Sys2Proof.Machine.execLdIndHL_E s
  | .ldIndHL_H => Sys2Proof.Machine.execLdIndHL_H s
  | .ldIndHL_L => Sys2Proof.Machine.execLdIndHL_L s
  | .halt => Sys2Proof.Machine.execHalt s
  | .ldIndHL_A => Sys2Proof.Machine.execLdIndHL_A s
  | .ldA_B => Sys2Proof.Machine.execLdA_B s
  | .ldA_C => Sys2Proof.Machine.execLdA_C s
  | .ldA_D => Sys2Proof.Machine.execLdA_D s
  | .ldA_E => Sys2Proof.Machine.execLdA_E s
  | .ldA_H => Sys2Proof.Machine.execLdA_H s
  | .ldA_L => Sys2Proof.Machine.execLdA_L s
  | .ldA_IndHL => Sys2Proof.Machine.execLdA_IndHL s
  | .ldA_A => Sys2Proof.Machine.execLdA_A s
  | .subB => Sys2Proof.Machine.execSubB s
  | .xorB => Sys2Proof.Machine.execXorB s
  | .cpB => Sys2Proof.Machine.execCpB s
  | .subC => Sys2Proof.Machine.execSubC s
  | .xorC => Sys2Proof.Machine.execXorC s
  | .cpC => Sys2Proof.Machine.execCpC s
  | .subD => Sys2Proof.Machine.execSubD s
  | .xorD => Sys2Proof.Machine.execXorD s
  | .cpD => Sys2Proof.Machine.execCpD s
  | .subE => Sys2Proof.Machine.execSubE s
  | .xorE => Sys2Proof.Machine.execXorE s
  | .cpE => Sys2Proof.Machine.execCpE s
  | .subH => Sys2Proof.Machine.execSubH s
  | .xorH => Sys2Proof.Machine.execXorH s
  | .cpH => Sys2Proof.Machine.execCpH s
  | .subL => Sys2Proof.Machine.execSubL s
  | .xorL => Sys2Proof.Machine.execXorL s
  | .cpL => Sys2Proof.Machine.execCpL s
  | .subIndHL => Sys2Proof.Machine.execSubIndHL s
  | .xorIndHL => Sys2Proof.Machine.execXorIndHL s
  | .cpIndHL => Sys2Proof.Machine.execCpIndHL s
  | .subA => Sys2Proof.Machine.execSubA s
  | .xorA => Sys2Proof.Machine.execXorA s
  | .cpA => Sys2Proof.Machine.execCpA s
  | .popBC => Sys2Proof.Machine.execPopBC s
  | .pushBC => Sys2Proof.Machine.execPushBC s
  | .popDE => Sys2Proof.Machine.execPopDE s
  | .pushDE => Sys2Proof.Machine.execPushDE s
  | .popHL => Sys2Proof.Machine.execPopHL s
  | .pushHL => Sys2Proof.Machine.execPushHL s
  | .popAF => Sys2Proof.Machine.execPopAF s
  | .pushAF => Sys2Proof.Machine.execPushAF s
  | .ret => Sys2Proof.Machine.execRet s
  | .call nn => Sys2Proof.Machine.execCall nn s
  | .subD8 n => Sys2Proof.Machine.execSubD8 n s
  | .ldhIndA8_A n => Sys2Proof.Machine.execLdhIndA8_A n s
  | .ldhA_IndA8 n => Sys2Proof.Machine.execLdhA_IndA8 n s
  | .ldIndC_A => Sys2Proof.Machine.execLdIndC_A s
  | .ldA_IndC => Sys2Proof.Machine.execLdA_IndC s
  | .ldIndA16_A nn => Sys2Proof.Machine.execLdIndA16_A nn s
  | .ldA_IndA16 nn => Sys2Proof.Machine.execLdA_IndA16 nn s
  | .cpD8 n => Sys2Proof.Machine.execCpD8 n s
  | .rlB => Sys2Proof.Machine.execRlB s
  | .rlC => Sys2Proof.Machine.execRlC s
  | .rlD => Sys2Proof.Machine.execRlD s
  | .rlE => Sys2Proof.Machine.execRlE s
  | .rlH => Sys2Proof.Machine.execRlH s
  | .rlL => Sys2Proof.Machine.execRlL s
  | .rlIndHL => Sys2Proof.Machine.execRlIndHL s
  | .rlA => Sys2Proof.Machine.execRlA s
  | .bit0_B => Sys2Proof.Machine.execBit0_B s
  | .bit0_C => Sys2Proof.Machine.execBit0_C s
  | .bit0_D => Sys2Proof.Machine.execBit0_D s
  | .bit0_E => Sys2Proof.Machine.execBit0_E s
  | .bit0_H => Sys2Proof.Machine.execBit0_H s
  | .bit0_L => Sys2Proof.Machine.execBit0_L s
  | .bit0_IndHL => Sys2Proof.Machine.execBit0_IndHL s
  | .bit0_A => Sys2Proof.Machine.execBit0_A s
  | .bit1_B => Sys2Proof.Machine.execBit1_B s
  | .bit1_C => Sys2Proof.Machine.execBit1_C s
  | .bit1_D => Sys2Proof.Machine.execBit1_D s
  | .bit1_E => Sys2Proof.Machine.execBit1_E s
  | .bit1_H => Sys2Proof.Machine.execBit1_H s
  | .bit1_L => Sys2Proof.Machine.execBit1_L s
  | .bit1_IndHL => Sys2Proof.Machine.execBit1_IndHL s
  | .bit1_A => Sys2Proof.Machine.execBit1_A s
  | .bit2_B => Sys2Proof.Machine.execBit2_B s
  | .bit2_C => Sys2Proof.Machine.execBit2_C s
  | .bit2_D => Sys2Proof.Machine.execBit2_D s
  | .bit2_E => Sys2Proof.Machine.execBit2_E s
  | .bit2_H => Sys2Proof.Machine.execBit2_H s
  | .bit2_L => Sys2Proof.Machine.execBit2_L s
  | .bit2_IndHL => Sys2Proof.Machine.execBit2_IndHL s
  | .bit2_A => Sys2Proof.Machine.execBit2_A s
  | .bit3_B => Sys2Proof.Machine.execBit3_B s
  | .bit3_C => Sys2Proof.Machine.execBit3_C s
  | .bit3_D => Sys2Proof.Machine.execBit3_D s
  | .bit3_E => Sys2Proof.Machine.execBit3_E s
  | .bit3_H => Sys2Proof.Machine.execBit3_H s
  | .bit3_L => Sys2Proof.Machine.execBit3_L s
  | .bit3_IndHL => Sys2Proof.Machine.execBit3_IndHL s
  | .bit3_A => Sys2Proof.Machine.execBit3_A s
  | .bit4_B => Sys2Proof.Machine.execBit4_B s
  | .bit4_C => Sys2Proof.Machine.execBit4_C s
  | .bit4_D => Sys2Proof.Machine.execBit4_D s
  | .bit4_E => Sys2Proof.Machine.execBit4_E s
  | .bit4_H => Sys2Proof.Machine.execBit4_H s
  | .bit4_L => Sys2Proof.Machine.execBit4_L s
  | .bit4_IndHL => Sys2Proof.Machine.execBit4_IndHL s
  | .bit4_A => Sys2Proof.Machine.execBit4_A s
  | .bit5_B => Sys2Proof.Machine.execBit5_B s
  | .bit5_C => Sys2Proof.Machine.execBit5_C s
  | .bit5_D => Sys2Proof.Machine.execBit5_D s
  | .bit5_E => Sys2Proof.Machine.execBit5_E s
  | .bit5_H => Sys2Proof.Machine.execBit5_H s
  | .bit5_L => Sys2Proof.Machine.execBit5_L s
  | .bit5_IndHL => Sys2Proof.Machine.execBit5_IndHL s
  | .bit5_A => Sys2Proof.Machine.execBit5_A s
  | .bit6_B => Sys2Proof.Machine.execBit6_B s
  | .bit6_C => Sys2Proof.Machine.execBit6_C s
  | .bit6_D => Sys2Proof.Machine.execBit6_D s
  | .bit6_E => Sys2Proof.Machine.execBit6_E s
  | .bit6_H => Sys2Proof.Machine.execBit6_H s
  | .bit6_L => Sys2Proof.Machine.execBit6_L s
  | .bit6_IndHL => Sys2Proof.Machine.execBit6_IndHL s
  | .bit6_A => Sys2Proof.Machine.execBit6_A s
  | .bit7_B => Sys2Proof.Machine.execBit7_B s
  | .bit7_C => Sys2Proof.Machine.execBit7_C s
  | .bit7_D => Sys2Proof.Machine.execBit7_D s
  | .bit7_E => Sys2Proof.Machine.execBit7_E s
  | .bit7_H => Sys2Proof.Machine.execBit7_H s
  | .bit7_L => Sys2Proof.Machine.execBit7_L s
  | .bit7_IndHL => Sys2Proof.Machine.execBit7_IndHL s
  | .bit7_A => Sys2Proof.Machine.execBit7_A s

end Sys2Proof.Machine
end

