-- ==== Sys2Proof/Machine/Step.lean ====
section
/-!
DEFINITION. One cycle of the core (40_executor.md R140), and the host's placing of an instruction where it is fetched.
-/

namespace Sys2Proof.Machine

/-- One cycle (R140). A core that is not running has no step (70_reset_and_hazards.md R315). A decode failure, and a
post-fetch PC of 0x10000 or more (30_encoding.md R96 (b)), put the core in `Faulted` with nothing else changed. -/
def step (s : State) : Host.Outcome State Fault Refusal :=
  match s.run with
  | .halted => .fault .stepWhenHalted
  | .faulted record => .fault (.stepWhenFaulted record)
  | .running =>
    match decode s.fetch with
    | .error g => .next (s.takeFailure g)
    | .ok (i, len) => if s.pc.toNat + len < memSize then exec i s else .next (s.takeFailure .endOfStream)

/-- The state with the instruction of a table word stored at PC, where `step` fetches. Only memory changes. -/
def State.withFetchWord (s : State) (nbits w : Nat) : State := s.placeAtPc (tableBytes nbits w)

end Sys2Proof.Machine
end

