-- ==== Sys2Proof/Safety.lean ====
section
/-!
DEFINITION. Runs and how they end (70_reset_and_hazards.md R316), the invariant of the machine, and the spec's tables of which
instruction writes what (R31, R32, R40, R41, R70), in the terms claims use.
-/

namespace Sys2Proof

open Machine

/-- `t` is reached from `s` by zero or more steps that each give a next state. -/
inductive Reaches : State → State → Prop where
  | refl (s : State) : Reaches s s
  | tail {s t u : State} (run : Reaches s t) (last : step t = .next u) : Reaches s u

/-- The run from `s` ends in success: at a `Halted` state (R316). -/
def Succeeds (s : State) : Prop := ∃ t, Reaches s t ∧ t.run = .halted

/-- The run from `s` ends in failure: at a `Faulted` state, whatever its kind (R316). -/
def Fails (s : State) : Prop := ∃ t record, Reaches s t ∧ t.run = .faulted record

/-- The run from `s` never ends: it stays `Running` (R316). -/
def Hangs (s : State) : Prop := ∀ t, Reaches s t → t.run = .running

/-- A failure that a cycle of this core can raise (60_exceptions.md R282): decoding raises its three, and of execute's only
`IllegalOperand(Register16(AF))`, by PUSH AF and POP AF. `UnimplementedOpcode` is not among them (40_executor.md R149). -/
def raisedByDecoded : Failure → Bool
  | .endOfStream | .unknownOpcode _ | .unknownExtendedOpcode _ => true
  | .illegalOperand slot => slot == .register16 .af
  | .unimplementedOpcode _ => false

/-- What the run state says of the rest: a `Halted` core has PC one past a HALT byte (R261), and a `Faulted` core has PC at
the failing instruction, where its record says it is (R46, R283), for a failure a decoded instruction can raise (R282). -/
def RunStateFits (s : State) : Prop :=
  match s.run with
  | .running => True
  | .halted => s.pc ≠ 0 ∧ s.readByte (s.pc - 1) = 0x76
  | .faulted record => record.pc = s.pc ∧ raisedByDecoded record.failure = true

/-- The invariant: memory is in its canonical form, and the run state fits the rest. -/
def Inv (s : State) : Prop := s.mem.wf ∧ RunStateFits s

/-! ## Which instruction writes and reads what -/

/-- The byte register is a half of the pair, other than of AF (R33). -/
def isHalfOf (r : Reg8) : Reg16 → Bool
  | .bc => r == .b || r == .c
  | .de => r == .d || r == .e
  | .hl => r == .h || r == .l
  | .af | .sp => false

/-- The term writes the byte register, for A, B, C, D, E, H and L (10_state.md R31). F is not in question here. -/
def writesReg8 (r : Reg8) : Opcode → Bool
  | .load (.register8 q) _ => q == r
  | .load (.register16 p) _ => isHalfOf r p
  | .inc (.register8 q) | .dec (.register8 q) | .rl (.register8 q) => q == r
  | .inc (.register16 p) | .dec (.register16 p) => isHalfOf r p
  | .pop p => isHalfOf r p
  | .ldInc _ | .ldDec _ => isHalfOf r .hl
  | .sub _ | .xor _ | .rla => r == .a
  | _ => false

/-- The term writes SP (10_state.md R32). PUSH AF and POP AF fail before they write it (44_stack.md R251, R253). -/
def writesSp : Opcode → Bool
  | .load (.register16 p) _ => p == .sp
  | .inc (.register16 p) | .dec (.register16 p) => p == .sp
  | .push p | .pop p => p != .af
  | .call _ | .ret => true
  | _ => false

/-- The term writes Z (10_state.md R40). XOR writes it when `XOR_FLAGS` is HW. -/
def writesZ : Opcode → Bool
  | .inc (.register16 _) | .dec (.register16 _) => false
  | .inc _ | .dec _ | .sub _ | .cp _ | .rl _ | .rla | .complBit _ _ => true
  | .xor _ => Config.xorFlags == .hw
  | _ => false

/-- The term writes Cy (10_state.md R41). XOR writes it when `XOR_FLAGS` is HW. -/
def writesCy : Opcode → Bool
  | .sub _ | .cp _ | .rl _ | .rla => true
  | .xor _ => Config.xorFlags == .hw
  | _ => false

/-- The term reads Z (R40). -/
def readsZ : Opcode → Bool
  | .jumpRNZMemOffset _ | .jumpRZMemOffset _ => true
  | _ => false

/-- The term reads Cy (R41). -/
def readsCy : Opcode → Bool
  | .rl _ | .rla => true
  | _ => false

/-- The addresses the term stores a byte to, in the state execute starts from (20_memory.md R70). PUSH AF stores
nothing (R251). -/
def storesTo (t : State) : Opcode → List Word
  | .load dst _ => (effAddr t dst).toList
  | .inc slot | .dec slot | .rl slot => (effAddr t slot).toList
  | .ldInc _ | .ldDec _ => [t.reg16 .hl]
  | .push p => if p = .af then [] else [t.sp - 1, t.sp - 2]
  | .call _ => [t.sp - 1, t.sp - 2]
  | _ => []

/-- The term sets PC itself, or fails and leaves it (10_state.md R42): PC is not simply the post-fetch PC. -/
def setsPc : Opcode → Bool
  | .jumpRMemOffset _ | .jumpRNZMemOffset _ | .jumpRZMemOffset _ | .call _ | .ret => true
  | .push p | .pop p => p == .af
  | _ => false

/-- The operand table of 30_encoding.md R99 and R108. -/
def operandTable : List Slot :=
  [.register8 .b, .register8 .c, .register8 .d, .register8 .e, .register8 .h, .register8 .l, .addrRegister .hl, .register8 .a]

/-- `F` with Z and Cy given and every other bit kept (R36, R37). -/
def flagByte (f : Byte) (z cy : Bool) : Byte := (f &&& 0x6F) ||| (if z then 0x80 else 0) ||| (if cy then 0x10 else 0)

end Sys2Proof
end

