-- ==== Sys2Proof/Certificates/Slice0/Obligations.lean ====
section
/-!
DEFINITION. The statements for the provers, from the spec's numbered rules. Where a rule is marked by the spec as its own
decision (`[decision: see 92_eei_decisions.md …]`) or derivation, the docstring says so and the statement's basis is 'derived'.
An instruction is named by its decoded term (`Instr.term`), so one statement covers every row of one shape.
-/

open Sys2Proof Sys2Proof.Machine

/-! ## The cycle -/

/-- 40_executor.md R140 (the spec's decisions D2, D15): a running core whose bytes at PC decode to an instruction that ends
below 0x10000 runs exactly that instruction. Nothing else surrounds `exec`: moving PC past the instruction is the first
thing `exec` does (`ExecRunsItsTermFromThePostFetchPc`; log entry 4). -/
def Obligations.StepRunsTheDecodedInstruction : Prop :=
  ∀ (s : State) (i : Instr) (len : Nat),
    s.run = .running → decode s.fetch = .ok (i, len) → s.pc.toNat + len < memSize → step s = exec i s

/-- R140, R142 and R160 (D2, D15; log entry 4): every instruction is its decoded term, executed on the state whose PC is the
post-fetch PC; if the term fails, the state before the cycle enters `Faulted` with the failure and its own PC. -/
def Obligations.ExecRunsItsTermFromThePostFetchPc : Prop :=
  ∀ (i : Instr) (s : State),
    exec i s =
      match execute i.term { s with pc := s.pc + BitVec.ofNat 16 i.length } with
      | .ok t => .next t
      | .error g => .next { s with run := .faulted ⟨g, s.pc⟩ }

/-- 30_encoding.md R95, R96 and 60_exceptions.md R281, R286 (D2, D3, D15): the decoder reads memory at PC and stops at 0x10000
without wrapping; a decode failure, or a post-fetch PC of 0x10000 or more, puts the core in `Faulted` and changes nothing
else. -/
def Obligations.FetchAndDecodeFailuresFault : Prop :=
  (∀ (s : State) (k : Nat),
      s.fetch[k]? = if k < 3 ∧ s.pc.toNat + k < memSize then some (s.mem.read (s.pc.toNat + k)) else none) ∧
  (∀ (s : State) (g : Failure), s.run = .running → decode s.fetch = .error g →
      step s = .next { s with run := .faulted ⟨g, s.pc⟩ }) ∧
  (∀ (s : State) (i : Instr) (len : Nat), s.run = .running → decode s.fetch = .ok (i, len) →
      memSize ≤ s.pc.toNat + len → step s = .next { s with run := .faulted ⟨.endOfStream, s.pc⟩ })

/-- 40_executor.md R141 and 60_exceptions.md R283 (D15): a cycle that fails leaves every register, PC and every memory byte as
they were, and records the address of the failing instruction. -/
def Obligations.FailingCycleChangesOnlyTheRunState : Prop :=
  ∀ (s t : State) (record : FaultRecord), step s = .next t → t.run = .faulted record →
    t = { s with run := .faulted record } ∧ record.pc = s.pc

/-- 70_reset_and_hazards.md R315 (D23): a core has a step exactly while it is running; a stopped core has none, which the model
says by a fault (log entry 3). -/
def Obligations.StepExistsExactlyWhileRunning : Prop :=
  ∀ s : State,
    (s.run = .running ↔ ∃ t, step s = .next t) ∧
    (s.run = .halted → step s = .fault .stepWhenHalted) ∧
    (∀ record, s.run = .faulted record → step s = .fault (.stepWhenFaulted record))

/-! ## Reset and invariants -/

/-- 10_state.md R49, 20_memory.md R77 and 70_reset_and_hazards.md R310 (D4, D5, D17, D23): for EVERY draw of `RESET_REGS` and
every image that fits, the reset state; for a longer image, `DataTooLarge`. -/
def Obligations.LaunchGivesTheResetState : Prop :=
  (∀ (r : ResetRegs) (image : List Byte), image.length ≤ 65536 →
    ∃ s, State.launch r image = .ok s ∧
      s.pc = 0 ∧ s.run = .running ∧ s.a = r.a ∧ s.b = r.b ∧ s.c = r.c ∧ s.d = r.d ∧ s.e = r.e ∧ s.h = r.h ∧ s.l = r.l ∧
      s.f = r.f ∧ s.sp = r.sp ∧ (∀ x : Word, s.readByte x = (image[x.toNat]?).getD 0) ∧ Inv s) ∧
  (∀ (r : ResetRegs) (image : List Byte), 65536 < image.length →
    State.launch r image = .error (.dataTooLarge image.length))

/-- R49 and R310 (D4, D23): `State.reset` is the launch of the empty image, and meets the invariant. No register's value is
claimed: that is the model's choice (log entry 1). -/
def Obligations.ResetMeetsTheInvariant : Prop :=
  Inv State.reset ∧ State.launch Config.resetRegs [] = .ok State.reset ∧ State.reset.pc = 0 ∧ State.reset.run = .running ∧
    ∀ x : Word, State.reset.readByte x = 0

/-- The machine's invariant (R46, R49, R261, R282, R283; D11, D14, D15): memory stays in its canonical form, a `Halted` core
has PC one past a HALT byte, and a `Faulted` core has PC at the instruction its record names, for a failure that decoding
or PUSH AF or POP AF raises. Every step keeps it, from every state that has it. -/
def Obligations.StepKeepsTheInvariant : Prop :=
  ∀ s t : State, Inv s → step s = .next t → Inv t

/-- 70_reset_and_hazards.md R316 (D14, D23) and R320: a run is determined by its first state and ends in one way at most: it
succeeds, fails or hangs, and no two of these. -/
def Obligations.EveryRunEndsInExactlyOneWay : Prop :=
  ∀ s : State,
    (Succeeds s ∨ Fails s ∨ Hangs s) ∧ ¬(Succeeds s ∧ Fails s) ∧ ¬(Succeeds s ∧ Hangs s) ∧ ¬(Fails s ∧ Hangs s)

/-! ## What instructions may write and read -/

/-- 10_state.md R38 (D21): no instruction writes bits 6, 5, 3:0 of F, so they hold their value for the whole run. -/
def Obligations.ReservedFlagBitsHoldForTheWholeRun : Prop :=
  (∀ (i : Instr) (s t : State), exec i s = .next t → t.f &&& 0x6F = s.f &&& 0x6F) ∧
  (∀ s t : State, Reaches s t → t.f &&& 0x6F = s.f &&& 0x6F)

/-- R38 (D21): no instruction reads bits 6, 5, 3:0 of F: flipping any of them before an instruction flips the same ones after
it and changes nothing else. -/
def Obligations.ReservedFlagBitsAreNotRead : Prop :=
  ∀ (i : Instr) (s t : State) (x : Byte), x &&& 0x90 = 0 → exec i s = .next t →
    exec i { s with f := s.f ^^^ x } = .next { t with f := t.f ^^^ x }

/-- 10_state.md R40 and R41 (D8, D9, D10): only JR NZ and JR Z read Z, and only RL and RLA read Cy. For every other instruction, what
the flag held before has no effect: a writer of the flag ends in the same state, and any other keeps the flag it was given and
changes nothing else by it. -/
def Obligations.FlagsAreReadOnlyByTheirReaders : Prop :=
  (∀ (i : Instr) (s t : State) (b : Bool), readsZ i.term = false → exec i s = .next t →
    exec i (s.setZ b) = .next (if writesZ i.term then t else t.setZ b)) ∧
  (∀ (i : Instr) (s t : State) (b : Bool), readsCy i.term = false → exec i s = .next t →
    exec i (s.setCy b) = .next (if writesCy i.term then t else t.setCy b))

/-- 10_state.md R45 and 60_exceptions.md R282 (D11, D14): HALT is the only instruction that halts, PUSH AF and POP AF are the
only ones that fault, and no other touches the run state. -/
def Obligations.OnlyHaltAndAfStackFormsLeaveRunning : Prop :=
  ∀ (i : Instr) (s t : State), exec i s = .next t →
    t.run =
      if i = .halt then .halted
      else if i = .pushAF ∨ i = .popAF then .faulted ⟨.illegalOperand (.register16 .af), s.pc⟩
      else s.run

/-- Frame of the byte registers, for every instruction: 10_state.md R31 lists which instruction writes A, B, C, D, E, H and L
(derived by the spec); every other one leaves the register. -/
def Obligations.ByteRegisterFrame : Prop :=
  ∀ (i : Instr) (s t : State) (r : Reg8), exec i s = .next t → r ≠ .f → writesReg8 r i.term = false →
    t.reg8 r = s.reg8 r

/-- Frame of SP, for every instruction: 10_state.md R32 lists which write it; PUSH AF and POP AF fail and do not (D11). -/
def Obligations.StackPointerFrame : Prop :=
  ∀ (i : Instr) (s t : State), exec i s = .next t → writesSp i.term = false → t.sp = s.sp

/-- Frame of the flags, for every instruction: 10_state.md R40 and R41 (D8, D9, D10) list which write Z and Cy. XOR counts as a
writer when `XOR_FLAGS` is HW (R214). -/
def Obligations.FlagFrame : Prop :=
  ∀ (i : Instr) (s t : State), exec i s = .next t →
    (writesZ i.term = false → t.z = s.z) ∧ (writesCy i.term = false → t.cy = s.cy)

/-- Frame of memory, for every instruction (20_memory.md R70, derived by the spec, D12): every byte outside the addresses stored
to reads as before. The addresses are computed in the state execute starts from, by `effAddr` of the destination slot, HL, or
SP - 1 and SP - 2; for a form that stores nothing there are none. -/
def Obligations.MemoryFrame : Prop :=
  ∀ (i : Instr) (s t : State), exec i s = .next t →
    ∀ x : Word, x ∉ storesTo (s.fetched i.length) i.term → t.readByte x = s.readByte x

/-- 10_state.md R42 (D2): an instruction that is no jump, call or return, and does not fail, leaves PC at the post-fetch PC. -/
def Obligations.StraightLineInstructionsAdvancePc : Prop :=
  ∀ (i : Instr) (s t : State), exec i s = .next t → setsPc i.term = false → t.pc = s.pc + BitVec.ofNat 16 i.length

/-! ## Encoding -/

/-- Decode and encode agree, for every instruction and every immediate, whatever bytes follow (30_encoding.md R94, and the
tables R112 to R117, which are the spec's decisions D6, D7): the decoder consumes exactly the instruction's bytes. -/
def Obligations.DecodeOfEncodeIsTheInstruction : Prop :=
  ∀ (i : Instr) (rest : List Byte), decode (i.encode ++ rest) = .ok (i, i.length)

/-- The other direction: what the decoder accepts is the encoding of what it answers (30_encoding.md R97 and the tables R107 to R117,
which are D6 and D7), of 1 to 3 bytes (R118, R119), so no two instructions share bytes and nothing else decodes (R122, R124; D18). -/
def Obligations.DecodedBytesAreTheEncoding : Prop :=
  ∀ (bytes : List Byte) (i : Instr) (len : Nat), decode bytes = .ok (i, len) →
    len = i.length ∧ 1 ≤ len ∧ len ≤ 3 ∧ bytes.take len = i.encode

/-- A few instructions' bytes, written out from the spec's encodings (95_test_vectors.md S2, S3, S4, S6; 30_encoding.md R112,
R115, R116, which are D6 and D7), decode to the instruction they stand for. -/
def Obligations.SampleWordsDecode : Prop :=
  decode [0x00] = .ok (.nop, 1) ∧ decode [0x76] = .ok (.halt, 1) ∧ decode [0x01, 0x34, 0x12] = .ok (.ldBC_d16 0x1234, 3) ∧
    decode [0xCB, 0x7C] = .ok (.bit7_H, 2) ∧ decode [0xCB, 0x76] = .ok (.bit6_IndHL, 2) ∧ decode [0x32] = .ok (.ldHLdec_A, 1) ∧
    decode [0xE0, 0x50] = .ok (.ldhIndA8_A 0x50, 2) ∧ decode [0x20, 0xFB] = .ok (.jrNZ 0xFB, 2) ∧ decode [0xD1] = .ok (.popDE, 1)

/-- 30_encoding.md R99: the load block. -/
def Obligations.LoadBlockDecodesByTheOperandTable : Prop :=
  ∀ (b : Byte) (rest : List Byte), 0x40 ≤ b.toNat → b.toNat < 0x80 → b ≠ 0x76 →
    ∃ (i : Instr) (dst src : Slot) (x y : BitVec 3),
      decode (b :: rest) = .ok (i, 1) ∧ i.term = .load dst src ∧
      operandTable[(b.toNat - 0x40) >>> 3]? = some dst ∧ operandTable[(b.toNat - 0x40) &&& 7]? = some src ∧
      dst.code = some x ∧ src.code = some y ∧ b = 0b01#2 ++ x ++ y

/-- 30_encoding.md R100: 0x76 is HALT, and no bytes decode to a load from (HL) to (HL). -/
def Obligations.HaltByteIsNeverALoad : Prop :=
  (∀ rest : List Byte, decode (0x76 :: rest) = .ok (.halt, 1)) ∧
  (∀ (bytes : List Byte) (i : Instr) (len : Nat), decode bytes = .ok (i, len) →
    i.term ≠ .load (.addrRegister .hl) (.addrRegister .hl))

/-- 30_encoding.md R98 and R102: after 0xCB the decoder reads one more byte and looks it up in the extended table; every
extended instruction has 2 bytes; a byte the table lacks fails with that byte, and 0xFF is one. -/
def Obligations.ExtendedPrefixDispatchesOnTheSecondByte : Prop :=
  (∀ (b1 : Byte) (rest : List Byte),
    decode (0xCB :: b1 :: rest) =
      match extendedEntry b1 with
      | some i => .ok (i, 2)
      | none => .error (.unknownExtendedOpcode b1)) ∧
  decode [0xCB] = .error .endOfStream ∧ decode [0xCB, 0xFF] = .error (.unknownExtendedOpcode 0xFF)

/-- 30_encoding.md R111, R116 and R121 (D7): what the extended table holds: RL at 0x10 to 0x17, BIT at 0x40 to 0x7F, each on the
operand of bits 2:0, and nothing at the other 184 bytes. -/
def Obligations.ExtendedTableIsRlAndBit : Prop :=
  ∀ (b1 : Byte) (rest : List Byte),
    if 0x10 ≤ b1.toNat ∧ b1.toNat < 0x18 then
      ∃ i slot, decode (0xCB :: b1 :: rest) = .ok (i, 2) ∧ operandTable[b1.toNat % 8]? = some slot ∧ i.term = .rl slot
    else if 0x40 ≤ b1.toNat ∧ b1.toNat < 0x80 then
      ∃ (i : Instr) (slot : Slot) (n : Fin 8), decode (0xCB :: b1 :: rest) = .ok (i, 2) ∧
        operandTable[b1.toNat % 8]? = some slot ∧ n.val = b1.toNat / 8 % 8 ∧ i.term = .complBit n slot
    else decode (0xCB :: b1 :: rest) = .error (.unknownExtendedOpcode b1)

/-- 30_encoding.md R120 (D6): the 102 primary bytes that decode to nothing; every other first byte is 0xCB or starts an
instruction when enough bytes follow. -/
def Obligations.UndecodedPrimaryBytesFail : Prop :=
  let undecoded : List Byte :=
    [0x07, 0x08, 0x09, 0x0F, 0x10, 0x19, 0x1F, 0x27, 0x29, 0x2A, 0x2F, 0x30, 0x37, 0x38, 0x39, 0x3A, 0x3F] ++
    [0x80, 0x81, 0x82, 0x83, 0x84, 0x85, 0x86, 0x87, 0x88, 0x89, 0x8A, 0x8B, 0x8C, 0x8D, 0x8E, 0x8F, 0x98, 0x99, 0x9A] ++
    [0x9B, 0x9C, 0x9D, 0x9E, 0x9F, 0xA0, 0xA1, 0xA2, 0xA3, 0xA4, 0xA5, 0xA6, 0xA7, 0xB0, 0xB1, 0xB2, 0xB3, 0xB4, 0xB5] ++
    [0xB6, 0xB7, 0xC0, 0xC2, 0xC3, 0xC4, 0xC6, 0xC7, 0xC8, 0xCA, 0xCC, 0xCE, 0xCF, 0xD0, 0xD2, 0xD3, 0xD4, 0xD7, 0xD8] ++
    [0xD9, 0xDA, 0xDB, 0xDC, 0xDD, 0xDE, 0xDF, 0xE3, 0xE4, 0xE6, 0xE7, 0xE8, 0xE9, 0xEB, 0xEC, 0xED, 0xEE, 0xEF, 0xF3] ++
    [0xF4, 0xF6, 0xF7, 0xF8, 0xF9, 0xFB, 0xFC, 0xFD, 0xFF]
  (∀ b ∈ undecoded, ∀ rest, decode (b :: rest) = .error (.unknownOpcode b)) ∧
  (∀ (b x y : Byte) (rest : List Byte), b ∉ undecoded → b ≠ 0xCB →
    ∃ i len, decode (b :: x :: y :: rest) = .ok (i, len))

/-- 30_encoding.md R103, R104 and 20_memory.md R65: an 8-bit immediate is the next byte, a 16-bit one the next two with the
low byte first, and a missing byte is `EndOfStream`. `Data8` widens with zeros, `Addr8(n)` names 0xFF00 + n, and the
displacement is kept as a byte that only the jump target reads as signed. -/
def Obligations.ImmediatesAreReadFromTheStream : Prop :=
  (∀ (b0 n : Byte) (mk : Byte → Instr) (rest : List Byte), primaryEntry b0 = .two mk →
    decode (b0 :: n :: rest) = .ok (mk n, 2) ∧ decode [b0] = .error .endOfStream) ∧
  (∀ (b0 l h : Byte) (mk : Word → Instr) (rest : List Byte), primaryEntry b0 = .three mk →
    (∃ v : Word, v.toNat = h.toNat * 256 + l.toNat ∧ decode (b0 :: l :: h :: rest) = .ok (mk v, 3)) ∧
    decode [b0] = .error .endOfStream ∧ decode [b0, l] = .error .endOfStream) ∧
  (∃ i, decode [0x01, 0x34, 0x12] = .ok (i, 3) ∧ i.term = .load (.register16 .bc) (.data16 0x1234)) ∧
  decode [0x01, 0x34] = .error .endOfStream ∧
  (∀ (s : State) (n : Byte), readSlot s (.data8 n) = n.setWidth 16 ∧ effAddr s (.addr8 n) = some (0xFF00 + n.setWidth 16)) ∧
  (∀ e : Byte, (Instr.jr e).term = .jumpRMemOffset e ∧ (Instr.jrNZ e).term = .jumpRNZMemOffset e ∧
    (Instr.jrZ e).term = .jumpRZMemOffset e ∧ ∀ pc : Word, relTarget pc e = pc + BitVec.ofInt 16 e.toInt)

/-! ## Registers, flags and memory -/

/-- 10_state.md R33: the pairs are views, `(high << 8) | low`. -/
def Obligations.PairsAreViewsOfTheirHalves : Prop :=
  ∀ s : State,
    s.reg16 .af = (s.a.setWidth 16 <<< 8) ||| s.f.setWidth 16 ∧ s.reg16 .bc = (s.b.setWidth 16 <<< 8) ||| s.c.setWidth 16 ∧
    s.reg16 .de = (s.d.setWidth 16 <<< 8) ||| s.e.setWidth 16 ∧ s.reg16 .hl = (s.h.setWidth 16 <<< 8) ||| s.l.setWidth 16

/-- 10_state.md R34 (D24) and R35 (derived by the spec), R31 and source example S11: a pair write sets both halves, keeps everything
else and reads back exactly; a write of a byte register writes that register alone, and so changes each view it is a half of. -/
def Obligations.PairWritesReadBack : Prop :=
  (∀ (s : State) (p : Reg16) (v : Word), p ≠ .af → (s.setReg16 p v).reg16 p = v) ∧
  (∀ (s : State) (v : Word), ∃ hi lo : Byte, hi.toNat = v.toNat / 256 ∧ lo.toNat = v.toNat % 256 ∧
    s.setReg16 .bc v = { s with b := hi, c := lo } ∧ s.setReg16 .de v = { s with d := hi, e := lo } ∧
    s.setReg16 .hl v = { s with h := hi, l := lo } ∧ s.setReg16 .sp v = { s with sp := v }) ∧
  (∀ (s : State) (x : Byte),
    (s.setReg8 .a x = { s with a := x } ∧ s.setReg8 .b x = { s with b := x } ∧ s.setReg8 .c x = { s with c := x } ∧
      s.setReg8 .d x = { s with d := x } ∧ s.setReg8 .e x = { s with e := x } ∧ s.setReg8 .h x = { s with h := x } ∧
      s.setReg8 .l x = { s with l := x }) ∧
    (s.reg8 .a = s.a ∧ s.reg8 .b = s.b ∧ s.reg8 .c = s.c ∧ s.reg8 .d = s.d ∧ s.reg8 .e = s.e ∧ s.reg8 .h = s.h ∧ s.reg8 .l = s.l) ∧
    (∀ r : Reg8, r ≠ .f → (s.setReg8 r x).reg8 r = x ∧ ∀ q, q ≠ r → (s.setReg8 r x).reg8 q = s.reg8 q) ∧
    ((s.setReg8 .a x).reg16 .af).toNat = x.toNat * 256 + s.f.toNat ∧
    ((s.setReg8 .b x).reg16 .bc).toNat = x.toNat * 256 + s.c.toNat ∧ ((s.setReg8 .c x).reg16 .bc).toNat = s.b.toNat * 256 + x.toNat ∧
    ((s.setReg8 .d x).reg16 .de).toNat = x.toNat * 256 + s.e.toNat ∧ ((s.setReg8 .e x).reg16 .de).toNat = s.d.toNat * 256 + x.toNat ∧
    ((s.setReg8 .h x).reg16 .hl).toNat = x.toNat * 256 + s.l.toNat ∧ ((s.setReg8 .l x).reg16 .hl).toNat = s.h.toNat * 256 + x.toNat)

/-- 10_state.md R37: a flag setter replaces exactly one bit of F. -/
def Obligations.FlagSettersWriteOneBit : Prop :=
  ∀ (s : State) (b : Bool),
    (s.setZ b = { s with f := (s.f &&& 0x7F) ||| ((if b then 1 else 0) <<< 7) } ∧
      ∀ k, k < 8 → (s.setZ b).f.getLsbD k = if k = 7 then b else s.f.getLsbD k) ∧
    (s.setCy b = { s with f := (s.f &&& 0xEF) ||| ((if b then 1 else 0) <<< 4) } ∧
      ∀ k, k < 8 → (s.setCy b).f.getLsbD k = if k = 4 then b else s.f.getLsbD k)

/-- 20_memory.md R61 and R62: a byte access never fails, and every address can be written: it then reads the byte written, and
every other address reads as before, and no register changes. -/
def Obligations.EveryByteOfMemoryIsReadableAndWritable : Prop :=
  ∀ (s : State) (addr : Word) (v : Byte),
    (s.writeByte addr v).readByte addr = v ∧ (∀ x : Word, x ≠ addr → (s.writeByte addr v).readByte x = s.readByte x) ∧
    s.writeByte addr v = { s with mem := (s.writeByte addr v).mem }

/-- The model's memory form: two memories in canonical form that read the same byte everywhere are the same list. It rests on the
zero fill of 10_state.md R49 and on the model's own form (log entry 6). -/
def Obligations.CanonicalMemoriesAreEqualWhenTheyReadEqual : Prop :=
  ∀ m m' : Memory, m.wf → m'.wf → (∀ x, x < memSize → m.read x = m'.read x) → m = m'

/-- 40_executor.md R143 and R144: effective addresses, slot reads and slot writes; an immediate is never written to. -/
def Obligations.SlotsReadAndWriteTheirLocations : Prop :=
  (∀ (s : State) (n : Byte) (a : Word),
    effAddr s (.addrRegister .bc) = some (s.reg16 .bc) ∧ effAddr s (.addrRegister .de) = some (s.reg16 .de) ∧
    effAddr s (.addrRegister .hl) = some (s.reg16 .hl) ∧ effAddr s (.addrRegister .c) = some (0xFF00 + s.c.setWidth 16) ∧
    effAddr s (.addr8 n) = some (0xFF00 + n.setWidth 16) ∧ effAddr s (.addr16 a) = some a) ∧
  (∀ (s : State) (slot : Slot) (x : Word), effAddr s slot = some x →
    (readSlot s slot).toNat = (s.readByte x).toNat ∧
    ∀ v : Word, writeSlot s slot v = s.writeByte x (v.setWidth 8)) ∧
  (∀ (s : State) (r : Reg8) (v : Word), r ≠ .f →
    (readSlot s (.register8 r)).toNat = (s.reg8 r).toNat ∧ writeSlot s (.register8 r) v = s.setReg8 r (v.setWidth 8)) ∧
  (∀ (s : State) (p : Reg16) (v : Word), p ≠ .af →
    readSlot s (.register16 p) = s.reg16 p ∧ writeSlot s (.register16 p) v = s.setReg16 p v) ∧
  (∀ (s : State) (n : Byte) (m : Word), (readSlot s (.data8 n)).toNat = n.toNat ∧ readSlot s (.data16 m) = m) ∧
  (∀ (op : Opcode) (t u : State) (dst : Slot), execute op t = .ok u → dst ∈ destinationsOf op → isImmediate dst = false)

/-! ## The executor's checks -/

/-- 40_executor.md R146 to R149 against R159 (D8, D11, D16): a term passes the checks exactly when its operands have an admitted
shape, and then it executes; every other term fails in every state, with the failure the checks name. -/
def Obligations.ChecksAdmitExactlyTheAdmittedShapes : Prop :=
  ∀ op : Opcode, (checkTerm op = none ↔ op.admitted = true) ∧
    (op.admitted = true → ∀ t : State, execute op t = .ok (perform t op)) ∧
    (op.admitted = false → ∃ g, checkTerm op = some g ∧ ∀ t : State, execute op t = .error g)

/-- 40_executor.md R146 to R149, 41_load.md R187 and the vectors V91 to V95 (D11, D16): which failure a term raises, F and AF
first in field order, then an immediate destination, then the shape; and what the loads no encoding produces do. -/
def Obligations.TermsOutsideTheEncodings : Prop :=
  (∀ (t : State) (bad slot : Slot), bad = .register8 .f ∨ bad = .register16 .af →
    execute (.load bad slot) t = .error (.illegalOperand bad) ∧
    (slot ≠ .register8 .f → slot ≠ .register16 .af → execute (.load slot bad) t = .error (.illegalOperand bad)) ∧
    execute (.inc bad) t = .error (.illegalOperand bad) ∧ execute (.dec bad) t = .error (.illegalOperand bad) ∧
    execute (.sub bad) t = .error (.illegalOperand bad) ∧ execute (.cp bad) t = .error (.illegalOperand bad) ∧
    execute (.xor bad) t = .error (.illegalOperand bad) ∧ execute (.rl bad) t = .error (.illegalOperand bad) ∧
    ∀ n, execute (.complBit n bad) t = .error (.illegalOperand bad)) ∧
  (∀ t : State, execute (.ldInc .f) t = .error (.illegalOperand (.register8 .f)) ∧
    execute (.ldDec .f) t = .error (.illegalOperand (.register8 .f)) ∧
    execute (.push .sp) t = .error (.unimplementedOpcode (.push .sp)) ∧
    execute (.pop .sp) t = .error (.unimplementedOpcode (.pop .sp))) ∧
  (∀ (t : State) (imm slot : Slot), (∃ n, imm = .data8 n) ∨ (∃ n, imm = .data16 n) →
    slot ≠ .register8 .f → slot ≠ .register16 .af →
    execute (.load imm slot) t = .error (.illegalOperand imm) ∧ execute (.inc imm) t = .error (.illegalOperand imm) ∧
    execute (.dec imm) t = .error (.illegalOperand imm) ∧ execute (.rl imm) t = .error (.illegalOperand imm) ∧
    ∀ n, execute (.complBit n imm) t = .error (.unimplementedOpcode (.complBit n imm))) ∧
  (∀ (t : State) (wide : Slot), (∃ p, p ≠ .af ∧ wide = .register16 p) ∨ (∃ n, wide = .data16 n) →
    execute (.sub wide) t = .error (.unimplementedOpcode (.sub wide)) ∧
    execute (.cp wide) t = .error (.unimplementedOpcode (.cp wide)) ∧
    execute (.xor wide) t = .error (.unimplementedOpcode (.xor wide))) ∧
  (∀ (t : State) (p : Reg16), p ≠ .af →
    execute (.rl (.register16 p)) t = .error (.unimplementedOpcode (.rl (.register16 p))) ∧
    ∀ n, execute (.complBit n (.register16 p)) t = .error (.unimplementedOpcode (.complBit n (.register16 p)))) ∧
  (∀ t : State, execute (.load (.register8 .a) (.register16 .bc)) t = .ok { t with a := t.c } ∧
    execute (.load (.register16 .de) (.register8 .a)) t = .ok { t with d := 0, e := t.a } ∧
    execute (.load (.addrRegister .hl) (.data16 0x1234)) t = .ok (t.writeByte (t.reg16 .hl) 0x34) ∧
    execute (.load (.addrRegister .hl) (.addrRegister .hl)) t = .ok (t.writeByte (t.reg16 .hl) (t.readByte (t.reg16 .hl))))

/-! ## The load family -/

/-- 41_load.md R171: LD r,r', the 49 rows ldB_B … ldA_A without (HL): the whole next state, and the encoding. -/
def Obligations.LoadRegisterFromRegister : Prop :=
  ∀ (i : Instr) (r r' : Reg8) (s : State), i.term = .load (.register8 r) (.register8 r') →
    exec i s = .next { s.setReg8 r (s.reg8 r') with pc := s.pc + 1 } ∧
    ∃ x y : BitVec 3, r.code = some x ∧ r'.code = some y ∧ x ≠ 0b110 ∧ y ≠ 0b110 ∧ i.encode = [0b01#2 ++ x ++ y]

/-- 41_load.md R172: LD r,(HL), the 7 rows ldB_IndHL … ldA_IndHL; the address is HL before the write. -/
def Obligations.LoadRegisterFromHl : Prop :=
  ∀ (i : Instr) (r : Reg8) (s : State), i.term = .load (.register8 r) (.addrRegister .hl) →
    exec i s = .next { s.setReg8 r (s.readByte (s.reg16 .hl)) with pc := s.pc + 1 } ∧
    ∃ x : BitVec 3, r.code = some x ∧ i.encode = [0b01#2 ++ x ++ 0b110#3]

/-- 41_load.md R173: LD (HL),r, the 7 rows ldIndHL_B … ldIndHL_A. -/
def Obligations.StoreRegisterAtHl : Prop :=
  ∀ (i : Instr) (r : Reg8) (s : State), i.term = .load (.addrRegister .hl) (.register8 r) →
    exec i s = .next { s.writeByte (s.reg16 .hl) (s.reg8 r) with pc := s.pc + 1 } ∧
    ∃ x : BitVec 3, r.code = some x ∧ i.encode = [0b01#2 ++ 0b110#3 ++ x]

/-- 41_load.md R174, R175 (encodings D6): LD r,d8, the 7 rows ldB_d8 … ldA_d8, and LD (HL),d8. -/
def Obligations.LoadByteImmediate : Prop :=
  (∀ (i : Instr) (r : Reg8) (n : Byte) (s : State), i.term = .load (.register8 r) (.data8 n) →
    exec i s = .next { s.setReg8 r n with pc := s.pc + 2 } ∧
    ∃ x : BitVec 3, r.code = some x ∧ i.encode = [0b00#2 ++ x ++ 0b110#3, n]) ∧
  (∀ (n : Byte) (s : State),
    exec (.ldIndHL_d8 n) s = .next { s.writeByte (s.reg16 .hl) n with pc := s.pc + 2 } ∧
    (Instr.ldIndHL_d8 n).encode = [0x36, n])

/-- 41_load.md R176 (D6): LD rr,d16 for BC, DE, HL and SP: the high register gets the high byte. -/
def Obligations.LoadWordImmediate : Prop :=
  ∀ (nn : Word) (s : State),
    exec (.ldBC_d16 nn) s = .next { s with b := nn.extractLsb' 8 8, c := nn.setWidth 8, pc := s.pc + 3 } ∧
    exec (.ldDE_d16 nn) s = .next { s with d := nn.extractLsb' 8 8, e := nn.setWidth 8, pc := s.pc + 3 } ∧
    exec (.ldHL_d16 nn) s = .next { s with h := nn.extractLsb' 8 8, l := nn.setWidth 8, pc := s.pc + 3 } ∧
    exec (.ldSP_d16 nn) s = .next { s with sp := nn, pc := s.pc + 3 }

/-- 41_load.md R177, R178 (D6): LD (BC),A, LD (DE),A, LD A,(BC) and LD A,(DE). -/
def Obligations.LoadAndStoreThroughBcAndDe : Prop :=
  ∀ s : State,
    exec .ldIndBC_A s = .next { s.writeByte (s.reg16 .bc) s.a with pc := s.pc + 1 } ∧
    exec .ldIndDE_A s = .next { s.writeByte (s.reg16 .de) s.a with pc := s.pc + 1 } ∧
    exec .ldA_IndBC s = .next { s with a := s.readByte (s.reg16 .bc), pc := s.pc + 1 } ∧
    exec .ldA_IndDE s = .next { s with a := s.readByte (s.reg16 .de), pc := s.pc + 1 }

/-- 41_load.md R179, R180 (D6, D13): LD (HL+),A and LD (HL-),A store A at the old HL and step HL, wrapping. -/
def Obligations.PostUpdatingStoresStepHl : Prop :=
  ∀ s : State,
    (∃ t, exec .ldHLinc_A s = .next t ∧ (t.reg16 .hl).toNat = ((s.reg16 .hl).toNat + 1) % 65536 ∧
      t = { s.writeByte (s.reg16 .hl) s.a with h := t.h, l := t.l, pc := s.pc + 1 }) ∧
    (∃ t, exec .ldHLdec_A s = .next t ∧ (t.reg16 .hl).toNat = ((s.reg16 .hl).toNat + 65535) % 65536 ∧
      t = { s.writeByte (s.reg16 .hl) s.a with h := t.h, l := t.l, pc := s.pc + 1 })

/-- 41_load.md R181 to R184 (D6, D19): the high-memory forms, plain byte accesses at 0xFF00 + offset. -/
def Obligations.HighMemoryLoadsAndStores : Prop :=
  ∀ (n : Byte) (s : State),
    exec (.ldhIndA8_A n) s = .next { s.writeByte (0xFF00 + n.setWidth 16) s.a with pc := s.pc + 2 } ∧
    exec (.ldhA_IndA8 n) s = .next { s with a := s.readByte (0xFF00 + n.setWidth 16), pc := s.pc + 2 } ∧
    exec .ldIndC_A s = .next { s.writeByte (0xFF00 + s.c.setWidth 16) s.a with pc := s.pc + 1 } ∧
    exec .ldA_IndC s = .next { s with a := s.readByte (0xFF00 + s.c.setWidth 16), pc := s.pc + 1 }

/-- 41_load.md R185, R186 (D6): LD (a16),A and LD A,(a16); exactly one byte moves. -/
def Obligations.AbsoluteLoadsAndStores : Prop :=
  ∀ (nn : Word) (s : State),
    exec (.ldIndA16_A nn) s = .next { s.writeByte nn s.a with pc := s.pc + 3 } ∧
    exec (.ldA_IndA16 nn) s = .next { s with a := s.readByte nn, pc := s.pc + 3 }

/-! ## Arithmetic and logic -/

/-- 42_arith_logic.md R200, R202 (D6, D8): INC r and DEC r, 7 rows each (incB …, decB …): the register wraps at 2^8, Z is
written, Cy and the reserved bits are kept. -/
def Obligations.IncAndDecByteRegister : Prop :=
  (∀ (i : Instr) (r : Reg8) (s : State), i.term = .inc (.register8 r) →
    exec i s = .next { s.setReg8 r (s.reg8 r + 1) with f := flagByte s.f (s.reg8 r + 1 == 0) s.cy, pc := s.pc + 1 }) ∧
  (∀ (i : Instr) (r : Reg8) (s : State), i.term = .dec (.register8 r) →
    exec i s = .next { s.setReg8 r (s.reg8 r - 1) with f := flagByte s.f (s.reg8 r - 1 == 0) s.cy, pc := s.pc + 1 })

/-- 42_arith_logic.md R201, R203 (D6, D8): INC (HL) and DEC (HL). -/
def Obligations.IncAndDecMemoryByte : Prop :=
  ∀ s : State,
    (let v := s.readByte (s.reg16 .hl) + 1
     exec .incIndHL s = .next { s.writeByte (s.reg16 .hl) v with f := flagByte s.f (v == 0) s.cy, pc := s.pc + 1 }) ∧
    (let v := s.readByte (s.reg16 .hl) - 1
     exec .decIndHL s = .next { s.writeByte (s.reg16 .hl) v with f := flagByte s.f (v == 0) s.cy, pc := s.pc + 1 })

/-- 42_arith_logic.md R204, R205 (D6, D8, D13): INC rr and DEC rr for BC, DE, HL and SP: the pair wraps at 2^16, and no flag is
written. -/
def Obligations.IncAndDecRegisterPair : Prop :=
  (∀ (i : Instr) (p : Reg16) (s : State), i.term = .inc (.register16 p) →
    p ≠ .af ∧ exec i s = .next { s.setReg16 p (s.reg16 p + 1) with pc := s.pc + 1 }) ∧
  (∀ (i : Instr) (p : Reg16) (s : State), i.term = .dec (.register16 p) →
    p ≠ .af ∧ exec i s = .next { s.setReg16 p (s.reg16 p - 1) with pc := s.pc + 1 })

/-- 42_arith_logic.md R206 to R208 (D6, D8): SUB r (7 rows, SUB A among them), SUB (HL) and SUB d8: A gets the difference modulo
2^8, Z says it is zero, Cy is the unsigned borrow. -/
def Obligations.SubtractFromAccumulator : Prop :=
  let after (s : State) (v : Byte) (len : Word) : State :=
    { s with a := s.a - v, f := flagByte s.f (s.a - v == 0) (decide (s.a.toNat < v.toNat)), pc := s.pc + len }
  (∀ (i : Instr) (r : Reg8) (s : State), i.term = .sub (.register8 r) → exec i s = .next (after s (s.reg8 r) 1)) ∧
  (∀ s : State, exec .subIndHL s = .next (after s (s.readByte (s.reg16 .hl)) 1)) ∧
  (∀ (n : Byte) (s : State), exec (.subD8 n) s = .next (after s n 2))

/-- 42_arith_logic.md R209 to R211 (D6, D8): CP r (7 rows), CP (HL) and CP d8: Z says A equals the operand, Cy says A is below
it, and A is kept. -/
def Obligations.CompareWithAccumulator : Prop :=
  let after (s : State) (v : Byte) (len : Word) : State :=
    { s with f := flagByte s.f (s.a == v) (decide (s.a.toNat < v.toNat)), pc := s.pc + len }
  (∀ (i : Instr) (r : Reg8) (s : State), i.term = .cp (.register8 r) → exec i s = .next (after s (s.reg8 r) 1)) ∧
  (∀ s : State, exec .cpIndHL s = .next (after s (s.readByte (s.reg16 .hl)) 1)) ∧
  (∀ (n : Byte) (s : State), exec (.cpD8 n) s = .next (after s n 2))

/-- 42_arith_logic.md R212 to R214 (D6, D9): XOR r (7 rows, XOR A among them) and XOR (HL): A gets the exclusive-or, and F is as
the launch parameter `XOR_FLAGS` says, whichever it is (log entry 2): both of its values are spelled out. -/
def Obligations.ExclusiveOrWithAccumulator : Prop :=
  (∀ (i : Instr) (r : Reg8) (s : State), i.term = .xor (.register8 r) →
    exec i s = .next (State.xorFlags { s with a := s.a ^^^ s.reg8 r, pc := s.pc + 1 } Config.xorFlags (s.a ^^^ s.reg8 r))) ∧
  (∀ s : State, exec .xorIndHL s =
    .next (State.xorFlags { s with a := s.a ^^^ s.readByte (s.reg16 .hl), pc := s.pc + 1 } Config.xorFlags
      (s.a ^^^ s.readByte (s.reg16 .hl)))) ∧
  (∀ (s : State) (res : Byte), s.xorFlags .hw res = { s with f := flagByte s.f (res == 0) false }) ∧
  (∀ (s : State) (res : Byte), s.xorFlags .none res = s)

/-! ## Rotate and bit test -/

/-- 43_bit_rotate.md R230 to R232 (D6, D7, D8, D10): RLA, RL r (7 rows) and RL (HL): the byte moves up by one with the old Cy
at bit 0, Cy gets the old bit 7; RL sets Z from the result and RLA clears it. -/
def Obligations.RotateLeftThroughCarry : Prop :=
  let rot (s : State) (v : Byte) : Byte := (v <<< 1) ||| (if s.cy then 1 else 0)
  (∀ s : State, exec .rla s = .next { s with a := rot s s.a, f := flagByte s.f false (s.a.getLsbD 7), pc := s.pc + 1 }) ∧
  (∀ (i : Instr) (r : Reg8) (s : State), i.term = .rl (.register8 r) →
    exec i s = .next { s.setReg8 r (rot s (s.reg8 r)) with
      f := flagByte s.f (rot s (s.reg8 r) == 0) ((s.reg8 r).getLsbD 7), pc := s.pc + 2 }) ∧
  (∀ s : State,
    exec .rlIndHL s = .next { s.writeByte (s.reg16 .hl) (rot s (s.readByte (s.reg16 .hl))) with
      f := flagByte s.f (rot s (s.readByte (s.reg16 .hl)) == 0) ((s.readByte (s.reg16 .hl)).getLsbD 7), pc := s.pc + 2 })

/-- 43_bit_rotate.md R233, R234 (encodings D7): BIT b,r (56 rows) and BIT b,(HL) (8 rows): Z is the complement of the bit, and
nothing else is written. -/
def Obligations.BitTestSetsZeroToTheComplement : Prop :=
  (∀ (i : Instr) (n : Fin 8) (r : Reg8) (s : State), i.term = .complBit n (.register8 r) →
    exec i s = .next { s with f := flagByte s.f (!(s.reg8 r).getLsbD n.val) s.cy, pc := s.pc + 2 }) ∧
  (∀ (i : Instr) (n : Fin 8) (s : State), i.term = .complBit n (.addrRegister .hl) →
    exec i s = .next { s with f := flagByte s.f (!(s.readByte (s.reg16 .hl)).getLsbD n.val) s.cy, pc := s.pc + 2 })

/-! ## Stack and control -/

/-- 44_stack.md R250, R252 (D6, D12, D13): PUSH and POP of BC, DE and HL: the word lies little-endian at the new SP, and
addresses and SP wrap. -/
def Obligations.PushAndPopMoveAPair : Prop :=
  (∀ (i : Instr) (p : Reg16) (s : State), i.term = .push p → p ≠ .af →
    exec i s = .next { (s.writeByte (s.sp - 1) ((s.reg16 p).extractLsb' 8 8)).writeByte (s.sp - 2) ((s.reg16 p).setWidth 8) with
      sp := s.sp - 2, pc := s.pc + 1 }) ∧
  (∀ (i : Instr) (p : Reg16) (s : State), i.term = .pop p → p ≠ .af →
    exec i s = .next { s.setReg16 p (s.readByte (s.sp + 1) ++ s.readByte s.sp) with sp := s.sp + 2, pc := s.pc + 1 })

/-- 44_stack.md R251, R253 (D11): PUSH AF and POP AF put the core in `Faulted` with `IllegalOperand(Register16(AF))` and the
address of the instruction; SP, PC, memory and everything else stay. -/
def Obligations.AfStackFormsFault : Prop :=
  ∀ s : State,
    exec .pushAF s = .next { s with run := .faulted ⟨.illegalOperand (.register16 .af), s.pc⟩ } ∧
    exec .popAF s = .next { s with run := .faulted ⟨.illegalOperand (.register16 .af), s.pc⟩ }

/-- 45_control.md R260: NOP moves PC on and does nothing else; it is the byte 0x00, and memory beyond the loaded image is
zero, so there a running core only moves PC on, up to the top of memory, where it fails with `EndOfStream`. -/
def Obligations.NopOnlyAdvancesPc : Prop :=
  (∀ s : State, exec .nop s = .next { s with pc := s.pc + 1 }) ∧ Instr.nop.encode = [0x00] ∧ Instr.nop.term = .nop ∧
    decode [0x00] = .ok (.nop, 1) ∧
    (∀ s : State, s.run = .running → s.readByte s.pc = 0x00 →
      step s = if s.pc = 0xFFFF then .next { s with run := .faulted ⟨.endOfStream, 0xFFFF⟩ } else .next { s with pc := s.pc + 1 }) ∧
    (∀ (r : ResetRegs) (image : List Byte) (s : State) (x : Word), State.launch r image = .ok s → image.length ≤ x.toNat →
      s.readByte x = 0x00)

/-- 45_control.md R261 (D14): HALT halts the core with PC at the post-fetch PC. -/
def Obligations.HaltStopsTheCore : Prop :=
  ∀ s : State, exec .halt s = .next { s with run := .halted, pc := s.pc + 1 }

/-- 45_control.md R262 to R265 (D6, D13): JR, JR NZ and JR Z: the displacement is signed, from the address after the jump, and
the target wraps at 2^16; not taken, PC is the post-fetch PC; no flag is written. -/
def Obligations.RelativeJumps : Prop :=
  ∀ (e : Byte) (s : State),
    let target : Word := BitVec.ofInt 16 ((s.pc.toNat : Int) + 2 + e.toInt)
    exec (.jr e) s = .next { s with pc := target } ∧
    exec (.jrNZ e) s = .next { s with pc := if s.f.getLsbD 7 = false then target else s.pc + 2 } ∧
    exec (.jrZ e) s = .next { s with pc := if s.f.getLsbD 7 = true then target else s.pc + 2 }

/-- 45_control.md R266, R267 (D6, D8, D12): CALL pushes the address after itself and jumps; RET pops PC. -/
def Obligations.CallAndReturn : Prop :=
  (∀ (nn : Word) (s : State),
    exec (.call nn) s = .next { (s.writeByte (s.sp - 1) ((s.pc + 3).extractLsb' 8 8)).writeByte (s.sp - 2) ((s.pc + 3).setWidth 8) with
      sp := s.sp - 2, pc := nn }) ∧
  (∀ s : State, exec .ret s = .next { s with sp := s.sp + 2, pc := s.readByte (s.sp + 1) ++ s.readByte s.sp })

/-- 45_control.md R263 (D6) and 70_reset_and_hazards.md R316: the bytes 18 FE jump to themselves for ever. It is a hang, not a
halt: the step gives the very same state. -/
def Obligations.JumpToItselfHangs : Prop :=
  ∀ s : State, s.run = .running → s.readByte s.pc = 0x18 → s.readByte (s.pc + 1) = 0xFE → s.pc.toNat + 2 < memSize →
    step s = .next s ∧ Hangs s

/-- 20_memory.md R74 and 70_reset_and_hazards.md R322 (D2): the next fetch sees a store, with no fence. A byte write at PC + k shows at
place k of the fetch and nowhere else. LD (HL),A with HL just past itself is followed by whatever the byte A held starts, for every A:
the next step runs what A and the bytes after it decode to, or takes its failure. With A = 0x76 that is HALT, and the run
succeeds (45_control.md R261 and R316; D14, D23). -/
def Obligations.NextFetchSeesTheStore : Prop :=
  (∀ (s : State) (x : Word) (v : Byte) (k : Nat),
    (s.writeByte x v).fetch[k]? = if k < 3 ∧ s.pc.toNat + k = x.toNat then some v else s.fetch[k]?) ∧
  (∀ s : State, s.run = .running → s.readByte s.pc = 0x77 → s.reg16 .hl = s.pc + 1 → s.pc.toNat + 1 < memSize →
    ∃ t, step s = .next t ∧ t = { s.writeByte (s.pc + 1) s.a with pc := s.pc + 1 } ∧
      t.fetch = s.a :: s.mem.bytesFrom (s.pc.toNat + 2) 2 ∧
      (∀ (i : Instr) (len : Nat), decode (s.a :: s.mem.bytesFrom (s.pc.toNat + 2) 2) = .ok (i, len) →
        step t = if s.pc.toNat + 1 + len < memSize then exec i t else .next { t with run := .faulted ⟨.endOfStream, s.pc + 1⟩ }) ∧
      (∀ g : Failure, decode (s.a :: s.mem.bytesFrom (s.pc.toNat + 2) 2) = .error g →
        step t = .next { t with run := .faulted ⟨g, s.pc + 1⟩ }) ∧
      (s.a = 0x76 → s.pc.toNat + 2 < memSize →
        ∃ u, step t = .next u ∧ u.run = .halted ∧ u.pc = s.pc + 2 ∧ Succeeds s))
end

