-- ==== Sys2Proof/Laws/Words.lean ====
section
/-!
SUPPORT. The arithmetic of the two halves of a word: `joinBytes`, `hiByte`, `loByte` as numbers, and that they are inverse.
-/

namespace Sys2Proof

@[simp] theorem joinBytes_toNat (h l : Byte) : (joinBytes h l).toNat = h.toNat * 256 + l.toNat := by
  have := Nat.two_pow_add_eq_or_of_lt (i := 8) l.isLt h.toNat
  unfold joinBytes
  rw [BitVec.toNat_append, Nat.shiftLeft_eq, Nat.mul_comm, ← this]

@[simp] theorem hiByte_toNat (w : Word) : (hiByte w).toNat = w.toNat / 256 := by
  have := w.isLt
  unfold hiByte
  rw [BitVec.extractLsb'_toNat, Nat.shiftRight_eq_div_pow]
  omega

@[simp] theorem loByte_toNat (w : Word) : (loByte w).toNat = w.toNat % 256 := by
  unfold loByte
  rw [BitVec.extractLsb'_toNat]
  simp

@[simp] theorem joinBytes_hi_lo (w : Word) : joinBytes (hiByte w) (loByte w) = w := by
  apply BitVec.eq_of_toNat_eq
  simp
  omega

@[simp] theorem hiByte_joinBytes (h l : Byte) : hiByte (joinBytes h l) = h := by
  have := l.isLt
  apply BitVec.eq_of_toNat_eq
  simp
  omega

@[simp] theorem loByte_joinBytes (h l : Byte) : loByte (joinBytes h l) = l := by
  have := l.isLt
  apply BitVec.eq_of_toNat_eq
  simp
  omega

/-- Narrowing to a byte is taking the low byte. -/
theorem loByte_eq_setWidth (w : Word) : loByte w = w.setWidth 8 := by
  apply BitVec.eq_of_toNat_eq
  simp

@[simp] theorem loByte_setWidth (v : Byte) : loByte (v.setWidth 16) = v := by
  have := v.isLt
  apply BitVec.eq_of_toNat_eq
  simp
  omega

end Sys2Proof
end

