-- ==== Sys2Proof/Laws/Decoder.lean ====
section
/-!
SUPPORT. What the decoder answers for each kind of first byte, and the ways it can accept (30_encoding.md R97).
-/

namespace Sys2Proof

theorem decode_unknown {b : Byte} (h : primaryEntry b = .unknown) (rest : List Byte) :
    decode (b :: rest) = .error (.unknownOpcode b) := by simp [decode, h]

theorem decode_one {b : Byte} {i : Instr} (h : primaryEntry b = .one i) (rest : List Byte) :
    decode (b :: rest) = .ok (i, 1) := by simp [decode, h]

theorem decode_two {b : Byte} {mk : Byte → Instr} (h : primaryEntry b = .two mk) (n : Byte) (rest : List Byte) :
    decode (b :: n :: rest) = .ok (mk n, 2) := by simp [decode, h]

theorem decode_three {b : Byte} {mk : Word → Instr} (h : primaryEntry b = .three mk) (l hi : Byte) (rest : List Byte) :
    decode (b :: l :: hi :: rest) = .ok (mk (joinBytes hi l), 3) := by simp [decode, h]

/-- The ways the decoder accepts: format F1, F2 or F3 by the first byte, or the extended table. -/
theorem decode_cases {bytes : List Byte} {i : Instr} {len : Nat} (h : decode bytes = .ok (i, len)) :
    ∃ b rest, bytes = b :: rest ∧
      ((primaryEntry b = .one i ∧ len = 1) ∨
        (∃ mk n tail, primaryEntry b = .two mk ∧ rest = n :: tail ∧ i = mk n ∧ len = 2) ∨
        (∃ mk l hi tail, primaryEntry b = .three mk ∧ rest = l :: hi :: tail ∧ i = mk (joinBytes hi l) ∧ len = 3) ∨
        (∃ b1 tail, primaryEntry b = .extended ∧ rest = b1 :: tail ∧ extendedEntry b1 = some i ∧ len = 2)) := by
  match bytes with
  | [] => simp [decode] at h
  | b :: rest =>
    refine ⟨b, rest, rfl, ?_⟩
    cases he : primaryEntry b with
    | unknown => simp [decode, he] at h
    | one j =>
      simp only [decode, he, Except.ok.injEq, Prod.mk.injEq] at h
      exact .inl ⟨by rw [h.1], h.2.symm⟩
    | two mk =>
      match rest with
      | [] => simp [decode, he] at h
      | n :: tail =>
        simp only [decode, he, Except.ok.injEq, Prod.mk.injEq] at h
        exact .inr (.inl ⟨mk, n, tail, rfl, rfl, h.1.symm, h.2.symm⟩)
    | three mk =>
      match rest with
      | [] => simp [decode, he] at h
      | [_] => simp [decode, he] at h
      | l :: hi :: tail =>
        simp only [decode, he, Except.ok.injEq, Prod.mk.injEq] at h
        exact .inr (.inr (.inl ⟨mk, l, hi, tail, rfl, rfl, h.1.symm, h.2.symm⟩))
    | extended =>
      match rest with
      | [] => simp [decode, he] at h
      | b1 :: tail =>
        cases hx : extendedEntry b1 with
        | none => simp [decode, he, hx] at h
        | some j =>
          simp only [decode, he, hx, Except.ok.injEq, Prod.mk.injEq] at h
          exact .inr (.inr (.inr ⟨b1, tail, rfl, rfl, by rw [hx, h.1], h.2.symm⟩))

end Sys2Proof
end

