-- ==== Sys2Proof/Laws/State.lean ====
section
/-!
SUPPORT. For each field of State and each update of one field: what the field holds afterwards. All are true by unfolding,
so that no later proof unfolds a record update.
-/

namespace Sys2Proof.Machine


@[simp] theorem State.setA_a (s : State) (v : Byte) : (s.setA v).a = v := rfl
@[simp] theorem State.setA_b (s : State) (v : Byte) : (s.setA v).b = s.b := rfl
@[simp] theorem State.setA_c (s : State) (v : Byte) : (s.setA v).c = s.c := rfl
@[simp] theorem State.setA_d (s : State) (v : Byte) : (s.setA v).d = s.d := rfl
@[simp] theorem State.setA_e (s : State) (v : Byte) : (s.setA v).e = s.e := rfl
@[simp] theorem State.setA_h (s : State) (v : Byte) : (s.setA v).h = s.h := rfl
@[simp] theorem State.setA_l (s : State) (v : Byte) : (s.setA v).l = s.l := rfl
@[simp] theorem State.setA_f (s : State) (v : Byte) : (s.setA v).f = s.f := rfl
@[simp] theorem State.setA_sp (s : State) (v : Byte) : (s.setA v).sp = s.sp := rfl
@[simp] theorem State.setA_pc (s : State) (v : Byte) : (s.setA v).pc = s.pc := rfl
@[simp] theorem State.setA_mem (s : State) (v : Byte) : (s.setA v).mem = s.mem := rfl
@[simp] theorem State.setA_run (s : State) (v : Byte) : (s.setA v).run = s.run := rfl

@[simp] theorem State.setB_a (s : State) (v : Byte) : (s.setB v).a = s.a := rfl
@[simp] theorem State.setB_b (s : State) (v : Byte) : (s.setB v).b = v := rfl
@[simp] theorem State.setB_c (s : State) (v : Byte) : (s.setB v).c = s.c := rfl
@[simp] theorem State.setB_d (s : State) (v : Byte) : (s.setB v).d = s.d := rfl
@[simp] theorem State.setB_e (s : State) (v : Byte) : (s.setB v).e = s.e := rfl
@[simp] theorem State.setB_h (s : State) (v : Byte) : (s.setB v).h = s.h := rfl
@[simp] theorem State.setB_l (s : State) (v : Byte) : (s.setB v).l = s.l := rfl
@[simp] theorem State.setB_f (s : State) (v : Byte) : (s.setB v).f = s.f := rfl
@[simp] theorem State.setB_sp (s : State) (v : Byte) : (s.setB v).sp = s.sp := rfl
@[simp] theorem State.setB_pc (s : State) (v : Byte) : (s.setB v).pc = s.pc := rfl
@[simp] theorem State.setB_mem (s : State) (v : Byte) : (s.setB v).mem = s.mem := rfl
@[simp] theorem State.setB_run (s : State) (v : Byte) : (s.setB v).run = s.run := rfl

@[simp] theorem State.setC_a (s : State) (v : Byte) : (s.setC v).a = s.a := rfl
@[simp] theorem State.setC_b (s : State) (v : Byte) : (s.setC v).b = s.b := rfl
@[simp] theorem State.setC_c (s : State) (v : Byte) : (s.setC v).c = v := rfl
@[simp] theorem State.setC_d (s : State) (v : Byte) : (s.setC v).d = s.d := rfl
@[simp] theorem State.setC_e (s : State) (v : Byte) : (s.setC v).e = s.e := rfl
@[simp] theorem State.setC_h (s : State) (v : Byte) : (s.setC v).h = s.h := rfl
@[simp] theorem State.setC_l (s : State) (v : Byte) : (s.setC v).l = s.l := rfl
@[simp] theorem State.setC_f (s : State) (v : Byte) : (s.setC v).f = s.f := rfl
@[simp] theorem State.setC_sp (s : State) (v : Byte) : (s.setC v).sp = s.sp := rfl
@[simp] theorem State.setC_pc (s : State) (v : Byte) : (s.setC v).pc = s.pc := rfl
@[simp] theorem State.setC_mem (s : State) (v : Byte) : (s.setC v).mem = s.mem := rfl
@[simp] theorem State.setC_run (s : State) (v : Byte) : (s.setC v).run = s.run := rfl

@[simp] theorem State.setD_a (s : State) (v : Byte) : (s.setD v).a = s.a := rfl
@[simp] theorem State.setD_b (s : State) (v : Byte) : (s.setD v).b = s.b := rfl
@[simp] theorem State.setD_c (s : State) (v : Byte) : (s.setD v).c = s.c := rfl
@[simp] theorem State.setD_d (s : State) (v : Byte) : (s.setD v).d = v := rfl
@[simp] theorem State.setD_e (s : State) (v : Byte) : (s.setD v).e = s.e := rfl
@[simp] theorem State.setD_h (s : State) (v : Byte) : (s.setD v).h = s.h := rfl
@[simp] theorem State.setD_l (s : State) (v : Byte) : (s.setD v).l = s.l := rfl
@[simp] theorem State.setD_f (s : State) (v : Byte) : (s.setD v).f = s.f := rfl
@[simp] theorem State.setD_sp (s : State) (v : Byte) : (s.setD v).sp = s.sp := rfl
@[simp] theorem State.setD_pc (s : State) (v : Byte) : (s.setD v).pc = s.pc := rfl
@[simp] theorem State.setD_mem (s : State) (v : Byte) : (s.setD v).mem = s.mem := rfl
@[simp] theorem State.setD_run (s : State) (v : Byte) : (s.setD v).run = s.run := rfl

@[simp] theorem State.setE_a (s : State) (v : Byte) : (s.setE v).a = s.a := rfl
@[simp] theorem State.setE_b (s : State) (v : Byte) : (s.setE v).b = s.b := rfl
@[simp] theorem State.setE_c (s : State) (v : Byte) : (s.setE v).c = s.c := rfl
@[simp] theorem State.setE_d (s : State) (v : Byte) : (s.setE v).d = s.d := rfl
@[simp] theorem State.setE_e (s : State) (v : Byte) : (s.setE v).e = v := rfl
@[simp] theorem State.setE_h (s : State) (v : Byte) : (s.setE v).h = s.h := rfl
@[simp] theorem State.setE_l (s : State) (v : Byte) : (s.setE v).l = s.l := rfl
@[simp] theorem State.setE_f (s : State) (v : Byte) : (s.setE v).f = s.f := rfl
@[simp] theorem State.setE_sp (s : State) (v : Byte) : (s.setE v).sp = s.sp := rfl
@[simp] theorem State.setE_pc (s : State) (v : Byte) : (s.setE v).pc = s.pc := rfl
@[simp] theorem State.setE_mem (s : State) (v : Byte) : (s.setE v).mem = s.mem := rfl
@[simp] theorem State.setE_run (s : State) (v : Byte) : (s.setE v).run = s.run := rfl

@[simp] theorem State.setH_a (s : State) (v : Byte) : (s.setH v).a = s.a := rfl
@[simp] theorem State.setH_b (s : State) (v : Byte) : (s.setH v).b = s.b := rfl
@[simp] theorem State.setH_c (s : State) (v : Byte) : (s.setH v).c = s.c := rfl
@[simp] theorem State.setH_d (s : State) (v : Byte) : (s.setH v).d = s.d := rfl
@[simp] theorem State.setH_e (s : State) (v : Byte) : (s.setH v).e = s.e := rfl
@[simp] theorem State.setH_h (s : State) (v : Byte) : (s.setH v).h = v := rfl
@[simp] theorem State.setH_l (s : State) (v : Byte) : (s.setH v).l = s.l := rfl
@[simp] theorem State.setH_f (s : State) (v : Byte) : (s.setH v).f = s.f := rfl
@[simp] theorem State.setH_sp (s : State) (v : Byte) : (s.setH v).sp = s.sp := rfl
@[simp] theorem State.setH_pc (s : State) (v : Byte) : (s.setH v).pc = s.pc := rfl
@[simp] theorem State.setH_mem (s : State) (v : Byte) : (s.setH v).mem = s.mem := rfl
@[simp] theorem State.setH_run (s : State) (v : Byte) : (s.setH v).run = s.run := rfl

@[simp] theorem State.setL_a (s : State) (v : Byte) : (s.setL v).a = s.a := rfl
@[simp] theorem State.setL_b (s : State) (v : Byte) : (s.setL v).b = s.b := rfl
@[simp] theorem State.setL_c (s : State) (v : Byte) : (s.setL v).c = s.c := rfl
@[simp] theorem State.setL_d (s : State) (v : Byte) : (s.setL v).d = s.d := rfl
@[simp] theorem State.setL_e (s : State) (v : Byte) : (s.setL v).e = s.e := rfl
@[simp] theorem State.setL_h (s : State) (v : Byte) : (s.setL v).h = s.h := rfl
@[simp] theorem State.setL_l (s : State) (v : Byte) : (s.setL v).l = v := rfl
@[simp] theorem State.setL_f (s : State) (v : Byte) : (s.setL v).f = s.f := rfl
@[simp] theorem State.setL_sp (s : State) (v : Byte) : (s.setL v).sp = s.sp := rfl
@[simp] theorem State.setL_pc (s : State) (v : Byte) : (s.setL v).pc = s.pc := rfl
@[simp] theorem State.setL_mem (s : State) (v : Byte) : (s.setL v).mem = s.mem := rfl
@[simp] theorem State.setL_run (s : State) (v : Byte) : (s.setL v).run = s.run := rfl

@[simp] theorem State.setF_a (s : State) (v : Byte) : (s.setF v).a = s.a := rfl
@[simp] theorem State.setF_b (s : State) (v : Byte) : (s.setF v).b = s.b := rfl
@[simp] theorem State.setF_c (s : State) (v : Byte) : (s.setF v).c = s.c := rfl
@[simp] theorem State.setF_d (s : State) (v : Byte) : (s.setF v).d = s.d := rfl
@[simp] theorem State.setF_e (s : State) (v : Byte) : (s.setF v).e = s.e := rfl
@[simp] theorem State.setF_h (s : State) (v : Byte) : (s.setF v).h = s.h := rfl
@[simp] theorem State.setF_l (s : State) (v : Byte) : (s.setF v).l = s.l := rfl
@[simp] theorem State.setF_f (s : State) (v : Byte) : (s.setF v).f = v := rfl
@[simp] theorem State.setF_sp (s : State) (v : Byte) : (s.setF v).sp = s.sp := rfl
@[simp] theorem State.setF_pc (s : State) (v : Byte) : (s.setF v).pc = s.pc := rfl
@[simp] theorem State.setF_mem (s : State) (v : Byte) : (s.setF v).mem = s.mem := rfl
@[simp] theorem State.setF_run (s : State) (v : Byte) : (s.setF v).run = s.run := rfl

@[simp] theorem State.setSp_a (s : State) (v : Word) : (s.setSp v).a = s.a := rfl
@[simp] theorem State.setSp_b (s : State) (v : Word) : (s.setSp v).b = s.b := rfl
@[simp] theorem State.setSp_c (s : State) (v : Word) : (s.setSp v).c = s.c := rfl
@[simp] theorem State.setSp_d (s : State) (v : Word) : (s.setSp v).d = s.d := rfl
@[simp] theorem State.setSp_e (s : State) (v : Word) : (s.setSp v).e = s.e := rfl
@[simp] theorem State.setSp_h (s : State) (v : Word) : (s.setSp v).h = s.h := rfl
@[simp] theorem State.setSp_l (s : State) (v : Word) : (s.setSp v).l = s.l := rfl
@[simp] theorem State.setSp_f (s : State) (v : Word) : (s.setSp v).f = s.f := rfl
@[simp] theorem State.setSp_sp (s : State) (v : Word) : (s.setSp v).sp = v := rfl
@[simp] theorem State.setSp_pc (s : State) (v : Word) : (s.setSp v).pc = s.pc := rfl
@[simp] theorem State.setSp_mem (s : State) (v : Word) : (s.setSp v).mem = s.mem := rfl
@[simp] theorem State.setSp_run (s : State) (v : Word) : (s.setSp v).run = s.run := rfl

@[simp] theorem State.setPc_a (s : State) (v : Word) : (s.setPc v).a = s.a := rfl
@[simp] theorem State.setPc_b (s : State) (v : Word) : (s.setPc v).b = s.b := rfl
@[simp] theorem State.setPc_c (s : State) (v : Word) : (s.setPc v).c = s.c := rfl
@[simp] theorem State.setPc_d (s : State) (v : Word) : (s.setPc v).d = s.d := rfl
@[simp] theorem State.setPc_e (s : State) (v : Word) : (s.setPc v).e = s.e := rfl
@[simp] theorem State.setPc_h (s : State) (v : Word) : (s.setPc v).h = s.h := rfl
@[simp] theorem State.setPc_l (s : State) (v : Word) : (s.setPc v).l = s.l := rfl
@[simp] theorem State.setPc_f (s : State) (v : Word) : (s.setPc v).f = s.f := rfl
@[simp] theorem State.setPc_sp (s : State) (v : Word) : (s.setPc v).sp = s.sp := rfl
@[simp] theorem State.setPc_pc (s : State) (v : Word) : (s.setPc v).pc = v := rfl
@[simp] theorem State.setPc_mem (s : State) (v : Word) : (s.setPc v).mem = s.mem := rfl
@[simp] theorem State.setPc_run (s : State) (v : Word) : (s.setPc v).run = s.run := rfl

@[simp] theorem State.setMem_a (s : State) (v : Memory) : (s.setMem v).a = s.a := rfl
@[simp] theorem State.setMem_b (s : State) (v : Memory) : (s.setMem v).b = s.b := rfl
@[simp] theorem State.setMem_c (s : State) (v : Memory) : (s.setMem v).c = s.c := rfl
@[simp] theorem State.setMem_d (s : State) (v : Memory) : (s.setMem v).d = s.d := rfl
@[simp] theorem State.setMem_e (s : State) (v : Memory) : (s.setMem v).e = s.e := rfl
@[simp] theorem State.setMem_h (s : State) (v : Memory) : (s.setMem v).h = s.h := rfl
@[simp] theorem State.setMem_l (s : State) (v : Memory) : (s.setMem v).l = s.l := rfl
@[simp] theorem State.setMem_f (s : State) (v : Memory) : (s.setMem v).f = s.f := rfl
@[simp] theorem State.setMem_sp (s : State) (v : Memory) : (s.setMem v).sp = s.sp := rfl
@[simp] theorem State.setMem_pc (s : State) (v : Memory) : (s.setMem v).pc = s.pc := rfl
@[simp] theorem State.setMem_mem (s : State) (v : Memory) : (s.setMem v).mem = v := rfl
@[simp] theorem State.setMem_run (s : State) (v : Memory) : (s.setMem v).run = s.run := rfl

@[simp] theorem State.setRun_a (s : State) (v : RunState) : (s.setRun v).a = s.a := rfl
@[simp] theorem State.setRun_b (s : State) (v : RunState) : (s.setRun v).b = s.b := rfl
@[simp] theorem State.setRun_c (s : State) (v : RunState) : (s.setRun v).c = s.c := rfl
@[simp] theorem State.setRun_d (s : State) (v : RunState) : (s.setRun v).d = s.d := rfl
@[simp] theorem State.setRun_e (s : State) (v : RunState) : (s.setRun v).e = s.e := rfl
@[simp] theorem State.setRun_h (s : State) (v : RunState) : (s.setRun v).h = s.h := rfl
@[simp] theorem State.setRun_l (s : State) (v : RunState) : (s.setRun v).l = s.l := rfl
@[simp] theorem State.setRun_f (s : State) (v : RunState) : (s.setRun v).f = s.f := rfl
@[simp] theorem State.setRun_sp (s : State) (v : RunState) : (s.setRun v).sp = s.sp := rfl
@[simp] theorem State.setRun_pc (s : State) (v : RunState) : (s.setRun v).pc = s.pc := rfl
@[simp] theorem State.setRun_mem (s : State) (v : RunState) : (s.setRun v).mem = s.mem := rfl
@[simp] theorem State.setRun_run (s : State) (v : RunState) : (s.setRun v).run = v := rfl

end Sys2Proof.Machine
end

