-- ==== Sys2Proof/Laws/Memory.lean ====
section
/-!
SUPPORT. The laws of memory: a read after a write, for every list of cells, and that every operation keeps the canonical
form (`Memory.wf`).
-/

namespace Sys2Proof.Machine

@[simp] theorem Memory.read_nil (x : Nat) : Memory.read [] x = 0 := rfl

theorem Memory.erase_lists_not (m : Memory) (a : Nat) : ∀ cell ∈ m.erase a, cell.1 ≠ a := by
  induction m with
  | nil => simp [Memory.erase]
  | cons c rest ih =>
    obtain ⟨k, v⟩ := c
    unfold Memory.erase
    split
    · exact ih
    · rename_i h
      intro cell hc
      rcases List.mem_cons.mp hc with rfl | hc
      · exact h
      · exact ih cell hc

theorem Memory.mem_of_mem_erase {m : Memory} {a : Nat} {cell : Host.Cell} (h : cell ∈ m.erase a) : cell ∈ m := by
  induction m with
  | nil => simp [Memory.erase] at h
  | cons c rest ih =>
    obtain ⟨k, v⟩ := c
    unfold Memory.erase at h
    split at h
    · exact List.mem_cons_of_mem _ (ih h)
    · rcases List.mem_cons.mp h with rfl | h
      · exact List.mem_cons_self
      · exact List.mem_cons_of_mem _ (ih h)

theorem Memory.read_eq_zero_of_not_listed {m : Memory} {a : Nat} (h : ∀ cell ∈ m, cell.1 ≠ a) : m.read a = 0 := by
  induction m with
  | nil => rfl
  | cons c rest ih =>
    obtain ⟨k, v⟩ := c
    have hk : k ≠ a := h (k, v) List.mem_cons_self
    simp only [Memory.read, if_neg hk]
    exact ih fun cell hc => h cell (List.mem_cons_of_mem _ hc)

theorem Memory.read_erase_other (m : Memory) {a x : Nat} (h : x ≠ a) : (m.erase a).read x = m.read x := by
  induction m with
  | nil => rfl
  | cons c rest ih =>
    obtain ⟨k, v⟩ := c
    unfold Memory.erase
    split
    · rename_i hk
      subst hk
      rw [ih, Memory.read, if_neg (Ne.symm h)]
    · simp only [Memory.read, ih]

theorem Memory.mem_insert {m : Memory} {a : Nat} {v : Byte} {cell : Host.Cell} (h : cell ∈ m.insert a v) :
    cell = (a, v) ∨ cell ∈ m := by
  induction m with
  | nil => simpa [Memory.insert] using h
  | cons c rest ih =>
    obtain ⟨k, x⟩ := c
    unfold Memory.insert at h
    split at h
    · simpa using h
    · rcases List.mem_cons.mp h with rfl | h
      · exact .inr List.mem_cons_self
      · exact (ih h).imp_right (List.mem_cons_of_mem _)

theorem Memory.read_insert (m : Memory) {a x : Nat} {v : Byte} (h : ∀ cell ∈ m, cell.1 ≠ a) :
    (m.insert a v).read x = if x = a then v else m.read x := by
  induction m with
  | nil => simp [Memory.insert, Memory.read, eq_comm]
  | cons c rest ih =>
    obtain ⟨k, y⟩ := c
    have hk : k ≠ a := h (k, y) List.mem_cons_self
    have ih := ih fun cell hc => h cell (List.mem_cons_of_mem _ hc)
    unfold Memory.insert
    split
    · simp [Memory.read, eq_comm]
    · simp only [Memory.read, ih]
      split <;> split <;> simp_all

/-- A read after a write: the written byte at the address, and every other byte as before (R61, R63). -/
theorem Memory.read_write (m : Memory) (a : Nat) (v : Byte) (x : Nat) :
    (m.write a v).read x = if x = a then v else m.read x := by
  have hnot := Memory.erase_lists_not m a
  unfold Memory.write
  split
  · split
    · subst_vars; exact Memory.read_eq_zero_of_not_listed hnot
    · exact Memory.read_erase_other m ‹_›
  · rw [Memory.read_insert _ hnot]
    split
    · rfl
    · exact Memory.read_erase_other m ‹_›

theorem Memory.erase_keeps_wf {m : Memory} (a : Nat) (h : m.wf) : (m.erase a).wf := by
  refine ⟨?_, fun cell hc => h.2 cell (Memory.mem_of_mem_erase hc)⟩
  obtain ⟨hp, -⟩ := h
  induction m with
  | nil => exact .nil
  | cons c rest ih =>
    obtain ⟨k, v⟩ := c
    rw [List.pairwise_cons] at hp
    unfold Memory.erase
    split
    · exact ih hp.2
    · exact List.pairwise_cons.mpr ⟨fun cell hc => hp.1 cell (Memory.mem_of_mem_erase hc), ih hp.2⟩

theorem Memory.insert_keeps_wf {m : Memory} {a : Nat} {v : Byte} (h : m.wf) (ha : a < memSize) (hv : v ≠ 0)
    (hnot : ∀ cell ∈ m, cell.1 ≠ a) : (m.insert a v).wf := by
  constructor
  · obtain ⟨hp, -⟩ := h
    induction m with
    | nil => simp [Memory.insert]
    | cons c rest ih =>
      obtain ⟨k, x⟩ := c
      rw [List.pairwise_cons] at hp
      have hk : k ≠ a := hnot (k, x) List.mem_cons_self
      unfold Memory.insert
      split
      · rename_i hlt
        refine List.pairwise_cons.mpr ⟨?_, List.pairwise_cons.mpr hp⟩
        intro cell hc
        rcases List.mem_cons.mp hc with rfl | hc
        · exact hlt
        · exact lt_trans hlt (hp.1 cell hc)
      · rename_i hge
        refine List.pairwise_cons.mpr ⟨?_, ih (fun cell hc => hnot cell (List.mem_cons_of_mem _ hc)) hp.2⟩
        intro cell hc
        rcases Memory.mem_insert hc with rfl | hc
        · show k < a
          omega
        · exact hp.1 cell hc
  · intro cell hc
    rcases Memory.mem_insert hc with rfl | hc
    · exact ⟨ha, hv⟩
    · exact h.2 cell hc

/-- A write inside the address space keeps the canonical form. -/
theorem Memory.write_keeps_wf {m : Memory} {a : Nat} (v : Byte) (h : m.wf) (ha : a < memSize) : (m.write a v).wf := by
  unfold Memory.write
  split
  · exact Memory.erase_keeps_wf a h
  · exact Memory.insert_keeps_wf (Memory.erase_keeps_wf a h) ha ‹_› (Memory.erase_lists_not m a)

/-- Storing bytes in a row keeps the canonical form, at any address. -/
theorem Memory.writeBytes_keeps_wf {m : Memory} (h : m.wf) (a : Nat) (bytes : List Byte) :
    (m.writeBytes a bytes).wf := by
  induction bytes generalizing m a with
  | nil => exact h
  | cons v rest ih =>
    unfold Memory.writeBytes
    split
    · exact ih (Memory.write_keeps_wf v h ‹_›) _
    · exact h

/-- What memory holds after bytes are stored in a row: the bytes that lie inside the address space, the rest as before. -/
theorem Memory.read_writeBytes (m : Memory) (a : Nat) (bytes : List Byte) (x : Nat) (hx : x < memSize) :
    (m.writeBytes a bytes).read x = if a ≤ x then (bytes[x - a]?).getD (m.read x) else m.read x := by
  induction bytes generalizing m a with
  | nil => simp [Memory.writeBytes]
  | cons v rest ih =>
    unfold Memory.writeBytes
    split
    · rw [ih, Memory.read_write]
      by_cases h1 : a + 1 ≤ x
      · have h2 : a ≤ x := by omega
        have h3 : x - a = (x - (a + 1)) + 1 := by omega
        have h4 : x ≠ a := by omega
        rw [if_pos h1, if_pos h2, h3, List.getElem?_cons_succ, if_neg h4]
      · rw [if_neg h1]
        by_cases h2 : x = a
        · subst h2; simp
        · have h3 : ¬ a ≤ x := by omega
          rw [if_neg h2, if_neg h3]
    · have h2 : ¬ a ≤ x := by omega
      rw [if_neg h2]

/-- Memory after reset is in its canonical form. -/
theorem State.reset_mem_wf : State.reset.mem.wf := by decide

/-- A byte write keeps the canonical form: every address of a write is inside the address space. -/
theorem State.writeByte_keeps_wf {s : State} (a : Word) (v : Byte) (h : s.mem.wf) : (s.writeByte a v).mem.wf :=
  Memory.write_keeps_wf v h a.isLt

end Sys2Proof.Machine
end

