-- ==== Sys2Proof/Laws/Ops.lean ====
section
/-!
SUPPORT. What each shared operation can do, said once: the fields a byte write, a register write, a slot write and a flag
update leave alone, the two outcomes of a term, and the cases of a step.
-/

namespace Sys2Proof.Machine

/-! ## Fields that an operation leaves alone -/

@[simp] theorem State.writeByte_a (s : State) (x : Word) (v : Byte) : (s.writeByte x v).a = s.a := rfl
@[simp] theorem State.writeByte_b (s : State) (x : Word) (v : Byte) : (s.writeByte x v).b = s.b := rfl
@[simp] theorem State.writeByte_c (s : State) (x : Word) (v : Byte) : (s.writeByte x v).c = s.c := rfl
@[simp] theorem State.writeByte_d (s : State) (x : Word) (v : Byte) : (s.writeByte x v).d = s.d := rfl
@[simp] theorem State.writeByte_e (s : State) (x : Word) (v : Byte) : (s.writeByte x v).e = s.e := rfl
@[simp] theorem State.writeByte_h (s : State) (x : Word) (v : Byte) : (s.writeByte x v).h = s.h := rfl
@[simp] theorem State.writeByte_l (s : State) (x : Word) (v : Byte) : (s.writeByte x v).l = s.l := rfl
@[simp] theorem State.writeByte_f (s : State) (x : Word) (v : Byte) : (s.writeByte x v).f = s.f := rfl
@[simp] theorem State.writeByte_sp (s : State) (x : Word) (v : Byte) : (s.writeByte x v).sp = s.sp := rfl
@[simp] theorem State.writeByte_pc (s : State) (x : Word) (v : Byte) : (s.writeByte x v).pc = s.pc := rfl
@[simp] theorem State.writeByte_run (s : State) (x : Word) (v : Byte) : (s.writeByte x v).run = s.run := rfl

@[simp] theorem State.setReg8_f (s : State) (r : Reg8) (v : Byte) : (s.setReg8 r v).f = s.f := by cases r <;> rfl
@[simp] theorem State.setReg8_sp (s : State) (r : Reg8) (v : Byte) : (s.setReg8 r v).sp = s.sp := by cases r <;> rfl
@[simp] theorem State.setReg8_pc (s : State) (r : Reg8) (v : Byte) : (s.setReg8 r v).pc = s.pc := by cases r <;> rfl
@[simp] theorem State.setReg8_mem (s : State) (r : Reg8) (v : Byte) : (s.setReg8 r v).mem = s.mem := by cases r <;> rfl
@[simp] theorem State.setReg8_run (s : State) (r : Reg8) (v : Byte) : (s.setReg8 r v).run = s.run := by cases r <;> rfl

@[simp] theorem State.setReg16_a (s : State) (p : Reg16) (v : Word) : (s.setReg16 p v).a = s.a := by cases p <;> rfl
@[simp] theorem State.setReg16_f (s : State) (p : Reg16) (v : Word) : (s.setReg16 p v).f = s.f := by cases p <;> rfl
@[simp] theorem State.setReg16_pc (s : State) (p : Reg16) (v : Word) : (s.setReg16 p v).pc = s.pc := by cases p <;> rfl
@[simp] theorem State.setReg16_mem (s : State) (p : Reg16) (v : Word) : (s.setReg16 p v).mem = s.mem := by cases p <;> rfl
@[simp] theorem State.setReg16_run (s : State) (p : Reg16) (v : Word) : (s.setReg16 p v).run = s.run := by cases p <;> rfl

@[simp] theorem State.setZ_a (s : State) (b : Bool) : (s.setZ b).a = s.a := rfl
@[simp] theorem State.setCy_a (s : State) (b : Bool) : (s.setCy b).a = s.a := rfl
@[simp] theorem State.subFlags_a (s : State) (x v : Byte) : (s.subFlags x v).a = s.a := rfl
@[simp] theorem State.xorFlags_a (s : State) (mode : XorFlags) (v : Byte) : (s.xorFlags mode v).a = s.a := by cases mode <;> rfl
@[simp] theorem State.setZ_b (s : State) (b : Bool) : (s.setZ b).b = s.b := rfl
@[simp] theorem State.setCy_b (s : State) (b : Bool) : (s.setCy b).b = s.b := rfl
@[simp] theorem State.subFlags_b (s : State) (x v : Byte) : (s.subFlags x v).b = s.b := rfl
@[simp] theorem State.xorFlags_b (s : State) (mode : XorFlags) (v : Byte) : (s.xorFlags mode v).b = s.b := by cases mode <;> rfl
@[simp] theorem State.setZ_c (s : State) (b : Bool) : (s.setZ b).c = s.c := rfl
@[simp] theorem State.setCy_c (s : State) (b : Bool) : (s.setCy b).c = s.c := rfl
@[simp] theorem State.subFlags_c (s : State) (x v : Byte) : (s.subFlags x v).c = s.c := rfl
@[simp] theorem State.xorFlags_c (s : State) (mode : XorFlags) (v : Byte) : (s.xorFlags mode v).c = s.c := by cases mode <;> rfl
@[simp] theorem State.setZ_d (s : State) (b : Bool) : (s.setZ b).d = s.d := rfl
@[simp] theorem State.setCy_d (s : State) (b : Bool) : (s.setCy b).d = s.d := rfl
@[simp] theorem State.subFlags_d (s : State) (x v : Byte) : (s.subFlags x v).d = s.d := rfl
@[simp] theorem State.xorFlags_d (s : State) (mode : XorFlags) (v : Byte) : (s.xorFlags mode v).d = s.d := by cases mode <;> rfl
@[simp] theorem State.setZ_e (s : State) (b : Bool) : (s.setZ b).e = s.e := rfl
@[simp] theorem State.setCy_e (s : State) (b : Bool) : (s.setCy b).e = s.e := rfl
@[simp] theorem State.subFlags_e (s : State) (x v : Byte) : (s.subFlags x v).e = s.e := rfl
@[simp] theorem State.xorFlags_e (s : State) (mode : XorFlags) (v : Byte) : (s.xorFlags mode v).e = s.e := by cases mode <;> rfl
@[simp] theorem State.setZ_h (s : State) (b : Bool) : (s.setZ b).h = s.h := rfl
@[simp] theorem State.setCy_h (s : State) (b : Bool) : (s.setCy b).h = s.h := rfl
@[simp] theorem State.subFlags_h (s : State) (x v : Byte) : (s.subFlags x v).h = s.h := rfl
@[simp] theorem State.xorFlags_h (s : State) (mode : XorFlags) (v : Byte) : (s.xorFlags mode v).h = s.h := by cases mode <;> rfl
@[simp] theorem State.setZ_l (s : State) (b : Bool) : (s.setZ b).l = s.l := rfl
@[simp] theorem State.setCy_l (s : State) (b : Bool) : (s.setCy b).l = s.l := rfl
@[simp] theorem State.subFlags_l (s : State) (x v : Byte) : (s.subFlags x v).l = s.l := rfl
@[simp] theorem State.xorFlags_l (s : State) (mode : XorFlags) (v : Byte) : (s.xorFlags mode v).l = s.l := by cases mode <;> rfl
@[simp] theorem State.setZ_sp (s : State) (b : Bool) : (s.setZ b).sp = s.sp := rfl
@[simp] theorem State.setCy_sp (s : State) (b : Bool) : (s.setCy b).sp = s.sp := rfl
@[simp] theorem State.subFlags_sp (s : State) (x v : Byte) : (s.subFlags x v).sp = s.sp := rfl
@[simp] theorem State.xorFlags_sp (s : State) (mode : XorFlags) (v : Byte) : (s.xorFlags mode v).sp = s.sp := by cases mode <;> rfl
@[simp] theorem State.setZ_pc (s : State) (b : Bool) : (s.setZ b).pc = s.pc := rfl
@[simp] theorem State.setCy_pc (s : State) (b : Bool) : (s.setCy b).pc = s.pc := rfl
@[simp] theorem State.subFlags_pc (s : State) (x v : Byte) : (s.subFlags x v).pc = s.pc := rfl
@[simp] theorem State.xorFlags_pc (s : State) (mode : XorFlags) (v : Byte) : (s.xorFlags mode v).pc = s.pc := by cases mode <;> rfl
@[simp] theorem State.setZ_mem (s : State) (b : Bool) : (s.setZ b).mem = s.mem := rfl
@[simp] theorem State.setCy_mem (s : State) (b : Bool) : (s.setCy b).mem = s.mem := rfl
@[simp] theorem State.subFlags_mem (s : State) (x v : Byte) : (s.subFlags x v).mem = s.mem := rfl
@[simp] theorem State.xorFlags_mem (s : State) (mode : XorFlags) (v : Byte) : (s.xorFlags mode v).mem = s.mem := by cases mode <;> rfl
@[simp] theorem State.setZ_run (s : State) (b : Bool) : (s.setZ b).run = s.run := rfl
@[simp] theorem State.setCy_run (s : State) (b : Bool) : (s.setCy b).run = s.run := rfl
@[simp] theorem State.subFlags_run (s : State) (x v : Byte) : (s.subFlags x v).run = s.run := rfl
@[simp] theorem State.xorFlags_run (s : State) (mode : XorFlags) (v : Byte) : (s.xorFlags mode v).run = s.run := by cases mode <;> rfl

@[simp] theorem State.fetched_a (s : State) (n : Nat) : (s.fetched n).a = s.a := rfl
@[simp] theorem State.takeFailure_a (s : State) (g : Failure) : (s.takeFailure g).a = s.a := rfl
@[simp] theorem State.dropStack_a (s : State) : s.dropStack.a = s.a := rfl
@[simp] theorem State.push16_a (s : State) (v : Word) : (s.push16 v).a = s.a := rfl
@[simp] theorem State.fetched_b (s : State) (n : Nat) : (s.fetched n).b = s.b := rfl
@[simp] theorem State.takeFailure_b (s : State) (g : Failure) : (s.takeFailure g).b = s.b := rfl
@[simp] theorem State.dropStack_b (s : State) : s.dropStack.b = s.b := rfl
@[simp] theorem State.push16_b (s : State) (v : Word) : (s.push16 v).b = s.b := rfl
@[simp] theorem State.fetched_c (s : State) (n : Nat) : (s.fetched n).c = s.c := rfl
@[simp] theorem State.takeFailure_c (s : State) (g : Failure) : (s.takeFailure g).c = s.c := rfl
@[simp] theorem State.dropStack_c (s : State) : s.dropStack.c = s.c := rfl
@[simp] theorem State.push16_c (s : State) (v : Word) : (s.push16 v).c = s.c := rfl
@[simp] theorem State.fetched_d (s : State) (n : Nat) : (s.fetched n).d = s.d := rfl
@[simp] theorem State.takeFailure_d (s : State) (g : Failure) : (s.takeFailure g).d = s.d := rfl
@[simp] theorem State.dropStack_d (s : State) : s.dropStack.d = s.d := rfl
@[simp] theorem State.push16_d (s : State) (v : Word) : (s.push16 v).d = s.d := rfl
@[simp] theorem State.fetched_e (s : State) (n : Nat) : (s.fetched n).e = s.e := rfl
@[simp] theorem State.takeFailure_e (s : State) (g : Failure) : (s.takeFailure g).e = s.e := rfl
@[simp] theorem State.dropStack_e (s : State) : s.dropStack.e = s.e := rfl
@[simp] theorem State.push16_e (s : State) (v : Word) : (s.push16 v).e = s.e := rfl
@[simp] theorem State.fetched_h (s : State) (n : Nat) : (s.fetched n).h = s.h := rfl
@[simp] theorem State.takeFailure_h (s : State) (g : Failure) : (s.takeFailure g).h = s.h := rfl
@[simp] theorem State.dropStack_h (s : State) : s.dropStack.h = s.h := rfl
@[simp] theorem State.push16_h (s : State) (v : Word) : (s.push16 v).h = s.h := rfl
@[simp] theorem State.fetched_l (s : State) (n : Nat) : (s.fetched n).l = s.l := rfl
@[simp] theorem State.takeFailure_l (s : State) (g : Failure) : (s.takeFailure g).l = s.l := rfl
@[simp] theorem State.dropStack_l (s : State) : s.dropStack.l = s.l := rfl
@[simp] theorem State.push16_l (s : State) (v : Word) : (s.push16 v).l = s.l := rfl
@[simp] theorem State.fetched_f (s : State) (n : Nat) : (s.fetched n).f = s.f := rfl
@[simp] theorem State.takeFailure_f (s : State) (g : Failure) : (s.takeFailure g).f = s.f := rfl
@[simp] theorem State.dropStack_f (s : State) : s.dropStack.f = s.f := rfl
@[simp] theorem State.push16_f (s : State) (v : Word) : (s.push16 v).f = s.f := rfl
@[simp] theorem State.fetched_sp (s : State) (n : Nat) : (s.fetched n).sp = s.sp := rfl
@[simp] theorem State.takeFailure_sp (s : State) (g : Failure) : (s.takeFailure g).sp = s.sp := rfl
@[simp] theorem State.takeFailure_pc (s : State) (g : Failure) : (s.takeFailure g).pc = s.pc := rfl
@[simp] theorem State.dropStack_pc (s : State) : s.dropStack.pc = s.pc := rfl
@[simp] theorem State.push16_pc (s : State) (v : Word) : (s.push16 v).pc = s.pc := rfl
@[simp] theorem State.fetched_mem (s : State) (n : Nat) : (s.fetched n).mem = s.mem := rfl
@[simp] theorem State.takeFailure_mem (s : State) (g : Failure) : (s.takeFailure g).mem = s.mem := rfl
@[simp] theorem State.dropStack_mem (s : State) : s.dropStack.mem = s.mem := rfl
@[simp] theorem State.fetched_run (s : State) (n : Nat) : (s.fetched n).run = s.run := rfl
@[simp] theorem State.dropStack_run (s : State) : s.dropStack.run = s.run := rfl
@[simp] theorem State.push16_run (s : State) (v : Word) : (s.push16 v).run = s.run := rfl

@[simp] theorem State.fetched_pc (s : State) (n : Nat) : (s.fetched n).pc = s.pc + BitVec.ofNat 16 n := rfl
@[simp] theorem State.takeFailure_run (s : State) (g : Failure) : (s.takeFailure g).run = .faulted ⟨g, s.pc⟩ := rfl
@[simp] theorem State.dropStack_sp (s : State) : s.dropStack.sp = s.sp + 2 := rfl
@[simp] theorem State.push16_sp (s : State) (v : Word) : (s.push16 v).sp = s.sp - 2 := rfl

/-! ## Registers -/

/-- A byte register after a byte register write: F is never written this way. -/
theorem State.reg8_setReg8 (s : State) (r q : Reg8) (v : Byte) :
    (s.setReg8 r v).reg8 q = if q = r ∧ r ≠ .f then v else s.reg8 q := by
  cases r <;> cases q <;> rfl

/-- Two states with the same memory read the same byte at each address. -/
theorem State.readByte_congr {s t : State} (h : t.mem = s.mem) (x : Word) : t.readByte x = s.readByte x := by
  unfold State.readByte
  rw [h]

/-! ## Slots -/

@[simp] theorem writeSlot_pc (s : State) (slot : Slot) (v : Word) : (writeSlot s slot v).pc = s.pc := by
  cases slot <;> simp [writeSlot]

@[simp] theorem writeSlot_f (s : State) (slot : Slot) (v : Word) : (writeSlot s slot v).f = s.f := by
  cases slot <;> simp [writeSlot]

@[simp] theorem writeSlot_run (s : State) (slot : Slot) (v : Word) : (writeSlot s slot v).run = s.run := by
  cases slot <;> simp [writeSlot]

/-- A slot write stores one byte, at the slot's effective address, or nothing. -/
theorem writeSlot_mem (s : State) (slot : Slot) (v : Word) :
    (writeSlot s slot v).mem =
      match effAddr s slot with
      | some x => s.mem.write x.toNat (loByte v)
      | none => s.mem := by
  cases slot <;> simp [writeSlot, effAddr, State.writeByte]

theorem writeSlot_keeps_wf {s : State} (slot : Slot) (v : Word) (h : s.mem.wf) : (writeSlot s slot v).mem.wf := by
  rw [writeSlot_mem]
  split
  · exact Memory.write_keeps_wf _ h (BitVec.isLt _)
  · exact h

theorem State.push16_keeps_wf {s : State} (v : Word) (h : s.mem.wf) : (s.push16 v).mem.wf :=
  State.writeByte_keeps_wf _ _ (State.writeByte_keeps_wf _ _ h)

/-! ## Terms and steps -/

/-- Every term keeps the canonical form of memory. -/
theorem perform_keeps_wf {s : State} (op : Opcode) (h : s.mem.wf) : (perform s op).mem.wf := by
  cases op with
  | load dst src => exact writeSlot_keeps_wf _ _ h
  | inc slot =>
    show (opInc s slot).mem.wf
    unfold opInc
    split
    · exact writeSlot_keeps_wf _ _ h
    · exact writeSlot_keeps_wf _ _ h
  | dec slot =>
    show (opDec s slot).mem.wf
    unfold opDec
    split
    · exact writeSlot_keeps_wf _ _ h
    · exact writeSlot_keeps_wf _ _ h
  | rl slot => exact writeSlot_keeps_wf (s := s) slot _ h
  | ldInc r => exact State.writeByte_keeps_wf (s := s) _ _ h
  | ldDec r => exact State.writeByte_keeps_wf (s := s) _ _ h
  | push p => exact State.push16_keeps_wf _ h
  | pop p => simpa [perform, opPop] using h
  | call target => exact State.push16_keeps_wf (s := s) _ h
  | xor slot => simpa [perform, opXor] using h
  | jumpRNZMemOffset e =>
    show (opJrIfZ s false e).mem.wf
    unfold opJrIfZ
    split <;> exact h
  | jumpRZMemOffset e =>
    show (opJrIfZ s true e).mem.wf
    unfold opJrIfZ
    split <;> exact h
  | nop => exact h
  | halt => exact h
  | ret => exact h
  | cp slot => exact h
  | sub slot => exact h
  | rla => exact h
  | complBit n slot => exact h
  | jumpRMemOffset e => exact h

/-- The two outcomes of a term (R140): it passes the checks and its effect happens on the post-fetch state, or it fails and the
state before the cycle takes the failure. There is no third. -/
theorem execTerm_cases {op : Opcode} {s : State} {r : Result} (h : execTerm op s = r) :
    (checkTerm op = none ∧ r = .next (perform (s.fetched op.length) op)) ∨
      ∃ g, checkTerm op = some g ∧ r = .next (s.takeFailure g) := by
  unfold execTerm execute at h
  cases hc : checkTerm op with
  | none => exact .inl ⟨rfl, by simpa [hc] using h.symm⟩
  | some g => exact .inr ⟨g, rfl, by simpa [hc] using h.symm⟩

/-- The cases of a step that gives a next state (R140): the core runs, and decode fails, or the instruction ends at the top of
memory or beyond, or the instruction runs. -/
theorem step_cases {s t : State} (h : step s = .next t) :
    s.run = .running ∧
      ((∃ g, decode s.fetch = .error g ∧ t = s.takeFailure g) ∨
        ∃ i len, decode s.fetch = .ok (i, len) ∧
          ((memSize ≤ s.pc.toNat + len ∧ t = s.takeFailure .endOfStream) ∨
            (s.pc.toNat + len < memSize ∧ exec i s = .next t))) := by
  unfold step at h
  split at h
  · cases h
  · cases h
  · rename_i hr
    refine ⟨hr, ?_⟩
    split at h
    · rename_i g hd
      exact .inl ⟨g, hd, by simpa using h.symm⟩
    · rename_i i len hd
      refine .inr ⟨i, len, hd, ?_⟩
      split at h
      · exact .inr ⟨‹_›, h⟩
      · exact .inl ⟨Nat.le_of_not_lt ‹_›, by simpa using h.symm⟩

end Sys2Proof.Machine
end

