-- ==== Sys2Proof/Laws/PerInstr.lean ====
section
/-!
SUPPORT. The per-instruction family `EncodingLength` (30_encoding.md R90, R107, R118): the encoder gives each instruction
exactly as many bytes as its length says, and that is 1 to 3. One lemma per constructor.
-/

namespace Sys2Proof.Laws

/-- The encoding of `i` has `i.length` bytes, 1 to 3. -/
def EncodingLength.Statement (i : Instr) : Prop := i.encode.length = i.length ∧ 1 ≤ i.length ∧ i.length ≤ 3


theorem EncodingLength.nop : EncodingLength.Statement .nop := ⟨rfl, Nat.le_of_ble_eq_true rfl, Nat.le_of_ble_eq_true rfl⟩
theorem EncodingLength.ldBC_d16 (nn : Word) : EncodingLength.Statement (.ldBC_d16 nn) := ⟨rfl, Nat.le_of_ble_eq_true rfl, Nat.le_of_ble_eq_true rfl⟩
theorem EncodingLength.incBC : EncodingLength.Statement .incBC := ⟨rfl, Nat.le_of_ble_eq_true rfl, Nat.le_of_ble_eq_true rfl⟩
theorem EncodingLength.decBC : EncodingLength.Statement .decBC := ⟨rfl, Nat.le_of_ble_eq_true rfl, Nat.le_of_ble_eq_true rfl⟩
theorem EncodingLength.ldDE_d16 (nn : Word) : EncodingLength.Statement (.ldDE_d16 nn) := ⟨rfl, Nat.le_of_ble_eq_true rfl, Nat.le_of_ble_eq_true rfl⟩
theorem EncodingLength.incDE : EncodingLength.Statement .incDE := ⟨rfl, Nat.le_of_ble_eq_true rfl, Nat.le_of_ble_eq_true rfl⟩
theorem EncodingLength.decDE : EncodingLength.Statement .decDE := ⟨rfl, Nat.le_of_ble_eq_true rfl, Nat.le_of_ble_eq_true rfl⟩
theorem EncodingLength.ldHL_d16 (nn : Word) : EncodingLength.Statement (.ldHL_d16 nn) := ⟨rfl, Nat.le_of_ble_eq_true rfl, Nat.le_of_ble_eq_true rfl⟩
theorem EncodingLength.incHL : EncodingLength.Statement .incHL := ⟨rfl, Nat.le_of_ble_eq_true rfl, Nat.le_of_ble_eq_true rfl⟩
theorem EncodingLength.decHL : EncodingLength.Statement .decHL := ⟨rfl, Nat.le_of_ble_eq_true rfl, Nat.le_of_ble_eq_true rfl⟩
theorem EncodingLength.ldSP_d16 (nn : Word) : EncodingLength.Statement (.ldSP_d16 nn) := ⟨rfl, Nat.le_of_ble_eq_true rfl, Nat.le_of_ble_eq_true rfl⟩
theorem EncodingLength.incSP : EncodingLength.Statement .incSP := ⟨rfl, Nat.le_of_ble_eq_true rfl, Nat.le_of_ble_eq_true rfl⟩
theorem EncodingLength.decSP : EncodingLength.Statement .decSP := ⟨rfl, Nat.le_of_ble_eq_true rfl, Nat.le_of_ble_eq_true rfl⟩
theorem EncodingLength.ldIndBC_A : EncodingLength.Statement .ldIndBC_A := ⟨rfl, Nat.le_of_ble_eq_true rfl, Nat.le_of_ble_eq_true rfl⟩
theorem EncodingLength.ldIndDE_A : EncodingLength.Statement .ldIndDE_A := ⟨rfl, Nat.le_of_ble_eq_true rfl, Nat.le_of_ble_eq_true rfl⟩
theorem EncodingLength.ldA_IndBC : EncodingLength.Statement .ldA_IndBC := ⟨rfl, Nat.le_of_ble_eq_true rfl, Nat.le_of_ble_eq_true rfl⟩
theorem EncodingLength.ldA_IndDE : EncodingLength.Statement .ldA_IndDE := ⟨rfl, Nat.le_of_ble_eq_true rfl, Nat.le_of_ble_eq_true rfl⟩
theorem EncodingLength.ldHLinc_A : EncodingLength.Statement .ldHLinc_A := ⟨rfl, Nat.le_of_ble_eq_true rfl, Nat.le_of_ble_eq_true rfl⟩
theorem EncodingLength.ldHLdec_A : EncodingLength.Statement .ldHLdec_A := ⟨rfl, Nat.le_of_ble_eq_true rfl, Nat.le_of_ble_eq_true rfl⟩
theorem EncodingLength.incB : EncodingLength.Statement .incB := ⟨rfl, Nat.le_of_ble_eq_true rfl, Nat.le_of_ble_eq_true rfl⟩
theorem EncodingLength.decB : EncodingLength.Statement .decB := ⟨rfl, Nat.le_of_ble_eq_true rfl, Nat.le_of_ble_eq_true rfl⟩
theorem EncodingLength.ldB_d8 (n : Byte) : EncodingLength.Statement (.ldB_d8 n) := ⟨rfl, Nat.le_of_ble_eq_true rfl, Nat.le_of_ble_eq_true rfl⟩
theorem EncodingLength.incC : EncodingLength.Statement .incC := ⟨rfl, Nat.le_of_ble_eq_true rfl, Nat.le_of_ble_eq_true rfl⟩
theorem EncodingLength.decC : EncodingLength.Statement .decC := ⟨rfl, Nat.le_of_ble_eq_true rfl, Nat.le_of_ble_eq_true rfl⟩
theorem EncodingLength.ldC_d8 (n : Byte) : EncodingLength.Statement (.ldC_d8 n) := ⟨rfl, Nat.le_of_ble_eq_true rfl, Nat.le_of_ble_eq_true rfl⟩
theorem EncodingLength.incD : EncodingLength.Statement .incD := ⟨rfl, Nat.le_of_ble_eq_true rfl, Nat.le_of_ble_eq_true rfl⟩
theorem EncodingLength.decD : EncodingLength.Statement .decD := ⟨rfl, Nat.le_of_ble_eq_true rfl, Nat.le_of_ble_eq_true rfl⟩
theorem EncodingLength.ldD_d8 (n : Byte) : EncodingLength.Statement (.ldD_d8 n) := ⟨rfl, Nat.le_of_ble_eq_true rfl, Nat.le_of_ble_eq_true rfl⟩
theorem EncodingLength.incE : EncodingLength.Statement .incE := ⟨rfl, Nat.le_of_ble_eq_true rfl, Nat.le_of_ble_eq_true rfl⟩
theorem EncodingLength.decE : EncodingLength.Statement .decE := ⟨rfl, Nat.le_of_ble_eq_true rfl, Nat.le_of_ble_eq_true rfl⟩
theorem EncodingLength.ldE_d8 (n : Byte) : EncodingLength.Statement (.ldE_d8 n) := ⟨rfl, Nat.le_of_ble_eq_true rfl, Nat.le_of_ble_eq_true rfl⟩
theorem EncodingLength.incH : EncodingLength.Statement .incH := ⟨rfl, Nat.le_of_ble_eq_true rfl, Nat.le_of_ble_eq_true rfl⟩
theorem EncodingLength.decH : EncodingLength.Statement .decH := ⟨rfl, Nat.le_of_ble_eq_true rfl, Nat.le_of_ble_eq_true rfl⟩
theorem EncodingLength.ldH_d8 (n : Byte) : EncodingLength.Statement (.ldH_d8 n) := ⟨rfl, Nat.le_of_ble_eq_true rfl, Nat.le_of_ble_eq_true rfl⟩
theorem EncodingLength.incL : EncodingLength.Statement .incL := ⟨rfl, Nat.le_of_ble_eq_true rfl, Nat.le_of_ble_eq_true rfl⟩
theorem EncodingLength.decL : EncodingLength.Statement .decL := ⟨rfl, Nat.le_of_ble_eq_true rfl, Nat.le_of_ble_eq_true rfl⟩
theorem EncodingLength.ldL_d8 (n : Byte) : EncodingLength.Statement (.ldL_d8 n) := ⟨rfl, Nat.le_of_ble_eq_true rfl, Nat.le_of_ble_eq_true rfl⟩
theorem EncodingLength.incIndHL : EncodingLength.Statement .incIndHL := ⟨rfl, Nat.le_of_ble_eq_true rfl, Nat.le_of_ble_eq_true rfl⟩
theorem EncodingLength.decIndHL : EncodingLength.Statement .decIndHL := ⟨rfl, Nat.le_of_ble_eq_true rfl, Nat.le_of_ble_eq_true rfl⟩
theorem EncodingLength.ldIndHL_d8 (n : Byte) : EncodingLength.Statement (.ldIndHL_d8 n) := ⟨rfl, Nat.le_of_ble_eq_true rfl, Nat.le_of_ble_eq_true rfl⟩
theorem EncodingLength.incA : EncodingLength.Statement .incA := ⟨rfl, Nat.le_of_ble_eq_true rfl, Nat.le_of_ble_eq_true rfl⟩
theorem EncodingLength.decA : EncodingLength.Statement .decA := ⟨rfl, Nat.le_of_ble_eq_true rfl, Nat.le_of_ble_eq_true rfl⟩
theorem EncodingLength.ldA_d8 (n : Byte) : EncodingLength.Statement (.ldA_d8 n) := ⟨rfl, Nat.le_of_ble_eq_true rfl, Nat.le_of_ble_eq_true rfl⟩
theorem EncodingLength.rla : EncodingLength.Statement .rla := ⟨rfl, Nat.le_of_ble_eq_true rfl, Nat.le_of_ble_eq_true rfl⟩
theorem EncodingLength.jr (e : Byte) : EncodingLength.Statement (.jr e) := ⟨rfl, Nat.le_of_ble_eq_true rfl, Nat.le_of_ble_eq_true rfl⟩
theorem EncodingLength.jrNZ (e : Byte) : EncodingLength.Statement (.jrNZ e) := ⟨rfl, Nat.le_of_ble_eq_true rfl, Nat.le_of_ble_eq_true rfl⟩
theorem EncodingLength.jrZ (e : Byte) : EncodingLength.Statement (.jrZ e) := ⟨rfl, Nat.le_of_ble_eq_true rfl, Nat.le_of_ble_eq_true rfl⟩
theorem EncodingLength.ldB_B : EncodingLength.Statement .ldB_B := ⟨rfl, Nat.le_of_ble_eq_true rfl, Nat.le_of_ble_eq_true rfl⟩
theorem EncodingLength.ldB_C : EncodingLength.Statement .ldB_C := ⟨rfl, Nat.le_of_ble_eq_true rfl, Nat.le_of_ble_eq_true rfl⟩
theorem EncodingLength.ldB_D : EncodingLength.Statement .ldB_D := ⟨rfl, Nat.le_of_ble_eq_true rfl, Nat.le_of_ble_eq_true rfl⟩
theorem EncodingLength.ldB_E : EncodingLength.Statement .ldB_E := ⟨rfl, Nat.le_of_ble_eq_true rfl, Nat.le_of_ble_eq_true rfl⟩
theorem EncodingLength.ldB_H : EncodingLength.Statement .ldB_H := ⟨rfl, Nat.le_of_ble_eq_true rfl, Nat.le_of_ble_eq_true rfl⟩
theorem EncodingLength.ldB_L : EncodingLength.Statement .ldB_L := ⟨rfl, Nat.le_of_ble_eq_true rfl, Nat.le_of_ble_eq_true rfl⟩
theorem EncodingLength.ldB_IndHL : EncodingLength.Statement .ldB_IndHL := ⟨rfl, Nat.le_of_ble_eq_true rfl, Nat.le_of_ble_eq_true rfl⟩
theorem EncodingLength.ldB_A : EncodingLength.Statement .ldB_A := ⟨rfl, Nat.le_of_ble_eq_true rfl, Nat.le_of_ble_eq_true rfl⟩
theorem EncodingLength.ldC_B : EncodingLength.Statement .ldC_B := ⟨rfl, Nat.le_of_ble_eq_true rfl, Nat.le_of_ble_eq_true rfl⟩
theorem EncodingLength.ldC_C : EncodingLength.Statement .ldC_C := ⟨rfl, Nat.le_of_ble_eq_true rfl, Nat.le_of_ble_eq_true rfl⟩
theorem EncodingLength.ldC_D : EncodingLength.Statement .ldC_D := ⟨rfl, Nat.le_of_ble_eq_true rfl, Nat.le_of_ble_eq_true rfl⟩
theorem EncodingLength.ldC_E : EncodingLength.Statement .ldC_E := ⟨rfl, Nat.le_of_ble_eq_true rfl, Nat.le_of_ble_eq_true rfl⟩
theorem EncodingLength.ldC_H : EncodingLength.Statement .ldC_H := ⟨rfl, Nat.le_of_ble_eq_true rfl, Nat.le_of_ble_eq_true rfl⟩
theorem EncodingLength.ldC_L : EncodingLength.Statement .ldC_L := ⟨rfl, Nat.le_of_ble_eq_true rfl, Nat.le_of_ble_eq_true rfl⟩
theorem EncodingLength.ldC_IndHL : EncodingLength.Statement .ldC_IndHL := ⟨rfl, Nat.le_of_ble_eq_true rfl, Nat.le_of_ble_eq_true rfl⟩
theorem EncodingLength.ldC_A : EncodingLength.Statement .ldC_A := ⟨rfl, Nat.le_of_ble_eq_true rfl, Nat.le_of_ble_eq_true rfl⟩
theorem EncodingLength.ldD_B : EncodingLength.Statement .ldD_B := ⟨rfl, Nat.le_of_ble_eq_true rfl, Nat.le_of_ble_eq_true rfl⟩
theorem EncodingLength.ldD_C : EncodingLength.Statement .ldD_C := ⟨rfl, Nat.le_of_ble_eq_true rfl, Nat.le_of_ble_eq_true rfl⟩
theorem EncodingLength.ldD_D : EncodingLength.Statement .ldD_D := ⟨rfl, Nat.le_of_ble_eq_true rfl, Nat.le_of_ble_eq_true rfl⟩
theorem EncodingLength.ldD_E : EncodingLength.Statement .ldD_E := ⟨rfl, Nat.le_of_ble_eq_true rfl, Nat.le_of_ble_eq_true rfl⟩
theorem EncodingLength.ldD_H : EncodingLength.Statement .ldD_H := ⟨rfl, Nat.le_of_ble_eq_true rfl, Nat.le_of_ble_eq_true rfl⟩
theorem EncodingLength.ldD_L : EncodingLength.Statement .ldD_L := ⟨rfl, Nat.le_of_ble_eq_true rfl, Nat.le_of_ble_eq_true rfl⟩
theorem EncodingLength.ldD_IndHL : EncodingLength.Statement .ldD_IndHL := ⟨rfl, Nat.le_of_ble_eq_true rfl, Nat.le_of_ble_eq_true rfl⟩
theorem EncodingLength.ldD_A : EncodingLength.Statement .ldD_A := ⟨rfl, Nat.le_of_ble_eq_true rfl, Nat.le_of_ble_eq_true rfl⟩
theorem EncodingLength.ldE_B : EncodingLength.Statement .ldE_B := ⟨rfl, Nat.le_of_ble_eq_true rfl, Nat.le_of_ble_eq_true rfl⟩
theorem EncodingLength.ldE_C : EncodingLength.Statement .ldE_C := ⟨rfl, Nat.le_of_ble_eq_true rfl, Nat.le_of_ble_eq_true rfl⟩
theorem EncodingLength.ldE_D : EncodingLength.Statement .ldE_D := ⟨rfl, Nat.le_of_ble_eq_true rfl, Nat.le_of_ble_eq_true rfl⟩
theorem EncodingLength.ldE_E : EncodingLength.Statement .ldE_E := ⟨rfl, Nat.le_of_ble_eq_true rfl, Nat.le_of_ble_eq_true rfl⟩
theorem EncodingLength.ldE_H : EncodingLength.Statement .ldE_H := ⟨rfl, Nat.le_of_ble_eq_true rfl, Nat.le_of_ble_eq_true rfl⟩
theorem EncodingLength.ldE_L : EncodingLength.Statement .ldE_L := ⟨rfl, Nat.le_of_ble_eq_true rfl, Nat.le_of_ble_eq_true rfl⟩
theorem EncodingLength.ldE_IndHL : EncodingLength.Statement .ldE_IndHL := ⟨rfl, Nat.le_of_ble_eq_true rfl, Nat.le_of_ble_eq_true rfl⟩
theorem EncodingLength.ldE_A : EncodingLength.Statement .ldE_A := ⟨rfl, Nat.le_of_ble_eq_true rfl, Nat.le_of_ble_eq_true rfl⟩
theorem EncodingLength.ldH_B : EncodingLength.Statement .ldH_B := ⟨rfl, Nat.le_of_ble_eq_true rfl, Nat.le_of_ble_eq_true rfl⟩
theorem EncodingLength.ldH_C : EncodingLength.Statement .ldH_C := ⟨rfl, Nat.le_of_ble_eq_true rfl, Nat.le_of_ble_eq_true rfl⟩
theorem EncodingLength.ldH_D : EncodingLength.Statement .ldH_D := ⟨rfl, Nat.le_of_ble_eq_true rfl, Nat.le_of_ble_eq_true rfl⟩
theorem EncodingLength.ldH_E : EncodingLength.Statement .ldH_E := ⟨rfl, Nat.le_of_ble_eq_true rfl, Nat.le_of_ble_eq_true rfl⟩
theorem EncodingLength.ldH_H : EncodingLength.Statement .ldH_H := ⟨rfl, Nat.le_of_ble_eq_true rfl, Nat.le_of_ble_eq_true rfl⟩
theorem EncodingLength.ldH_L : EncodingLength.Statement .ldH_L := ⟨rfl, Nat.le_of_ble_eq_true rfl, Nat.le_of_ble_eq_true rfl⟩
theorem EncodingLength.ldH_IndHL : EncodingLength.Statement .ldH_IndHL := ⟨rfl, Nat.le_of_ble_eq_true rfl, Nat.le_of_ble_eq_true rfl⟩
theorem EncodingLength.ldH_A : EncodingLength.Statement .ldH_A := ⟨rfl, Nat.le_of_ble_eq_true rfl, Nat.le_of_ble_eq_true rfl⟩
theorem EncodingLength.ldL_B : EncodingLength.Statement .ldL_B := ⟨rfl, Nat.le_of_ble_eq_true rfl, Nat.le_of_ble_eq_true rfl⟩
theorem EncodingLength.ldL_C : EncodingLength.Statement .ldL_C := ⟨rfl, Nat.le_of_ble_eq_true rfl, Nat.le_of_ble_eq_true rfl⟩
theorem EncodingLength.ldL_D : EncodingLength.Statement .ldL_D := ⟨rfl, Nat.le_of_ble_eq_true rfl, Nat.le_of_ble_eq_true rfl⟩
theorem EncodingLength.ldL_E : EncodingLength.Statement .ldL_E := ⟨rfl, Nat.le_of_ble_eq_true rfl, Nat.le_of_ble_eq_true rfl⟩
theorem EncodingLength.ldL_H : EncodingLength.Statement .ldL_H := ⟨rfl, Nat.le_of_ble_eq_true rfl, Nat.le_of_ble_eq_true rfl⟩
theorem EncodingLength.ldL_L : EncodingLength.Statement .ldL_L := ⟨rfl, Nat.le_of_ble_eq_true rfl, Nat.le_of_ble_eq_true rfl⟩
theorem EncodingLength.ldL_IndHL : EncodingLength.Statement .ldL_IndHL := ⟨rfl, Nat.le_of_ble_eq_true rfl, Nat.le_of_ble_eq_true rfl⟩
theorem EncodingLength.ldL_A : EncodingLength.Statement .ldL_A := ⟨rfl, Nat.le_of_ble_eq_true rfl, Nat.le_of_ble_eq_true rfl⟩
theorem EncodingLength.ldIndHL_B : EncodingLength.Statement .ldIndHL_B := ⟨rfl, Nat.le_of_ble_eq_true rfl, Nat.le_of_ble_eq_true rfl⟩
theorem EncodingLength.ldIndHL_C : EncodingLength.Statement .ldIndHL_C := ⟨rfl, Nat.le_of_ble_eq_true rfl, Nat.le_of_ble_eq_true rfl⟩
theorem EncodingLength.ldIndHL_D : EncodingLength.Statement .ldIndHL_D := ⟨rfl, Nat.le_of_ble_eq_true rfl, Nat.le_of_ble_eq_true rfl⟩
theorem EncodingLength.ldIndHL_E : EncodingLength.Statement .ldIndHL_E := ⟨rfl, Nat.le_of_ble_eq_true rfl, Nat.le_of_ble_eq_true rfl⟩
theorem EncodingLength.ldIndHL_H : EncodingLength.Statement .ldIndHL_H := ⟨rfl, Nat.le_of_ble_eq_true rfl, Nat.le_of_ble_eq_true rfl⟩
theorem EncodingLength.ldIndHL_L : EncodingLength.Statement .ldIndHL_L := ⟨rfl, Nat.le_of_ble_eq_true rfl, Nat.le_of_ble_eq_true rfl⟩
theorem EncodingLength.halt : EncodingLength.Statement .halt := ⟨rfl, Nat.le_of_ble_eq_true rfl, Nat.le_of_ble_eq_true rfl⟩
theorem EncodingLength.ldIndHL_A : EncodingLength.Statement .ldIndHL_A := ⟨rfl, Nat.le_of_ble_eq_true rfl, Nat.le_of_ble_eq_true rfl⟩
theorem EncodingLength.ldA_B : EncodingLength.Statement .ldA_B := ⟨rfl, Nat.le_of_ble_eq_true rfl, Nat.le_of_ble_eq_true rfl⟩
theorem EncodingLength.ldA_C : EncodingLength.Statement .ldA_C := ⟨rfl, Nat.le_of_ble_eq_true rfl, Nat.le_of_ble_eq_true rfl⟩
theorem EncodingLength.ldA_D : EncodingLength.Statement .ldA_D := ⟨rfl, Nat.le_of_ble_eq_true rfl, Nat.le_of_ble_eq_true rfl⟩
theorem EncodingLength.ldA_E : EncodingLength.Statement .ldA_E := ⟨rfl, Nat.le_of_ble_eq_true rfl, Nat.le_of_ble_eq_true rfl⟩
theorem EncodingLength.ldA_H : EncodingLength.Statement .ldA_H := ⟨rfl, Nat.le_of_ble_eq_true rfl, Nat.le_of_ble_eq_true rfl⟩
theorem EncodingLength.ldA_L : EncodingLength.Statement .ldA_L := ⟨rfl, Nat.le_of_ble_eq_true rfl, Nat.le_of_ble_eq_true rfl⟩
theorem EncodingLength.ldA_IndHL : EncodingLength.Statement .ldA_IndHL := ⟨rfl, Nat.le_of_ble_eq_true rfl, Nat.le_of_ble_eq_true rfl⟩
theorem EncodingLength.ldA_A : EncodingLength.Statement .ldA_A := ⟨rfl, Nat.le_of_ble_eq_true rfl, Nat.le_of_ble_eq_true rfl⟩
theorem EncodingLength.subB : EncodingLength.Statement .subB := ⟨rfl, Nat.le_of_ble_eq_true rfl, Nat.le_of_ble_eq_true rfl⟩
theorem EncodingLength.xorB : EncodingLength.Statement .xorB := ⟨rfl, Nat.le_of_ble_eq_true rfl, Nat.le_of_ble_eq_true rfl⟩
theorem EncodingLength.cpB : EncodingLength.Statement .cpB := ⟨rfl, Nat.le_of_ble_eq_true rfl, Nat.le_of_ble_eq_true rfl⟩
theorem EncodingLength.subC : EncodingLength.Statement .subC := ⟨rfl, Nat.le_of_ble_eq_true rfl, Nat.le_of_ble_eq_true rfl⟩
theorem EncodingLength.xorC : EncodingLength.Statement .xorC := ⟨rfl, Nat.le_of_ble_eq_true rfl, Nat.le_of_ble_eq_true rfl⟩
theorem EncodingLength.cpC : EncodingLength.Statement .cpC := ⟨rfl, Nat.le_of_ble_eq_true rfl, Nat.le_of_ble_eq_true rfl⟩
theorem EncodingLength.subD : EncodingLength.Statement .subD := ⟨rfl, Nat.le_of_ble_eq_true rfl, Nat.le_of_ble_eq_true rfl⟩
theorem EncodingLength.xorD : EncodingLength.Statement .xorD := ⟨rfl, Nat.le_of_ble_eq_true rfl, Nat.le_of_ble_eq_true rfl⟩
theorem EncodingLength.cpD : EncodingLength.Statement .cpD := ⟨rfl, Nat.le_of_ble_eq_true rfl, Nat.le_of_ble_eq_true rfl⟩
theorem EncodingLength.subE : EncodingLength.Statement .subE := ⟨rfl, Nat.le_of_ble_eq_true rfl, Nat.le_of_ble_eq_true rfl⟩
theorem EncodingLength.xorE : EncodingLength.Statement .xorE := ⟨rfl, Nat.le_of_ble_eq_true rfl, Nat.le_of_ble_eq_true rfl⟩
theorem EncodingLength.cpE : EncodingLength.Statement .cpE := ⟨rfl, Nat.le_of_ble_eq_true rfl, Nat.le_of_ble_eq_true rfl⟩
theorem EncodingLength.subH : EncodingLength.Statement .subH := ⟨rfl, Nat.le_of_ble_eq_true rfl, Nat.le_of_ble_eq_true rfl⟩
theorem EncodingLength.xorH : EncodingLength.Statement .xorH := ⟨rfl, Nat.le_of_ble_eq_true rfl, Nat.le_of_ble_eq_true rfl⟩
theorem EncodingLength.cpH : EncodingLength.Statement .cpH := ⟨rfl, Nat.le_of_ble_eq_true rfl, Nat.le_of_ble_eq_true rfl⟩
theorem EncodingLength.subL : EncodingLength.Statement .subL := ⟨rfl, Nat.le_of_ble_eq_true rfl, Nat.le_of_ble_eq_true rfl⟩
theorem EncodingLength.xorL : EncodingLength.Statement .xorL := ⟨rfl, Nat.le_of_ble_eq_true rfl, Nat.le_of_ble_eq_true rfl⟩
theorem EncodingLength.cpL : EncodingLength.Statement .cpL := ⟨rfl, Nat.le_of_ble_eq_true rfl, Nat.le_of_ble_eq_true rfl⟩
theorem EncodingLength.subIndHL : EncodingLength.Statement .subIndHL := ⟨rfl, Nat.le_of_ble_eq_true rfl, Nat.le_of_ble_eq_true rfl⟩
theorem EncodingLength.xorIndHL : EncodingLength.Statement .xorIndHL := ⟨rfl, Nat.le_of_ble_eq_true rfl, Nat.le_of_ble_eq_true rfl⟩
theorem EncodingLength.cpIndHL : EncodingLength.Statement .cpIndHL := ⟨rfl, Nat.le_of_ble_eq_true rfl, Nat.le_of_ble_eq_true rfl⟩
theorem EncodingLength.subA : EncodingLength.Statement .subA := ⟨rfl, Nat.le_of_ble_eq_true rfl, Nat.le_of_ble_eq_true rfl⟩
theorem EncodingLength.xorA : EncodingLength.Statement .xorA := ⟨rfl, Nat.le_of_ble_eq_true rfl, Nat.le_of_ble_eq_true rfl⟩
theorem EncodingLength.cpA : EncodingLength.Statement .cpA := ⟨rfl, Nat.le_of_ble_eq_true rfl, Nat.le_of_ble_eq_true rfl⟩
theorem EncodingLength.popBC : EncodingLength.Statement .popBC := ⟨rfl, Nat.le_of_ble_eq_true rfl, Nat.le_of_ble_eq_true rfl⟩
theorem EncodingLength.pushBC : EncodingLength.Statement .pushBC := ⟨rfl, Nat.le_of_ble_eq_true rfl, Nat.le_of_ble_eq_true rfl⟩
theorem EncodingLength.popDE : EncodingLength.Statement .popDE := ⟨rfl, Nat.le_of_ble_eq_true rfl, Nat.le_of_ble_eq_true rfl⟩
theorem EncodingLength.pushDE : EncodingLength.Statement .pushDE := ⟨rfl, Nat.le_of_ble_eq_true rfl, Nat.le_of_ble_eq_true rfl⟩
theorem EncodingLength.popHL : EncodingLength.Statement .popHL := ⟨rfl, Nat.le_of_ble_eq_true rfl, Nat.le_of_ble_eq_true rfl⟩
theorem EncodingLength.pushHL : EncodingLength.Statement .pushHL := ⟨rfl, Nat.le_of_ble_eq_true rfl, Nat.le_of_ble_eq_true rfl⟩
theorem EncodingLength.popAF : EncodingLength.Statement .popAF := ⟨rfl, Nat.le_of_ble_eq_true rfl, Nat.le_of_ble_eq_true rfl⟩
theorem EncodingLength.pushAF : EncodingLength.Statement .pushAF := ⟨rfl, Nat.le_of_ble_eq_true rfl, Nat.le_of_ble_eq_true rfl⟩
theorem EncodingLength.ret : EncodingLength.Statement .ret := ⟨rfl, Nat.le_of_ble_eq_true rfl, Nat.le_of_ble_eq_true rfl⟩
theorem EncodingLength.call (nn : Word) : EncodingLength.Statement (.call nn) := ⟨rfl, Nat.le_of_ble_eq_true rfl, Nat.le_of_ble_eq_true rfl⟩
theorem EncodingLength.subD8 (n : Byte) : EncodingLength.Statement (.subD8 n) := ⟨rfl, Nat.le_of_ble_eq_true rfl, Nat.le_of_ble_eq_true rfl⟩
theorem EncodingLength.ldhIndA8_A (n : Byte) : EncodingLength.Statement (.ldhIndA8_A n) := ⟨rfl, Nat.le_of_ble_eq_true rfl, Nat.le_of_ble_eq_true rfl⟩
theorem EncodingLength.ldhA_IndA8 (n : Byte) : EncodingLength.Statement (.ldhA_IndA8 n) := ⟨rfl, Nat.le_of_ble_eq_true rfl, Nat.le_of_ble_eq_true rfl⟩
theorem EncodingLength.ldIndC_A : EncodingLength.Statement .ldIndC_A := ⟨rfl, Nat.le_of_ble_eq_true rfl, Nat.le_of_ble_eq_true rfl⟩
theorem EncodingLength.ldA_IndC : EncodingLength.Statement .ldA_IndC := ⟨rfl, Nat.le_of_ble_eq_true rfl, Nat.le_of_ble_eq_true rfl⟩
theorem EncodingLength.ldIndA16_A (nn : Word) : EncodingLength.Statement (.ldIndA16_A nn) := ⟨rfl, Nat.le_of_ble_eq_true rfl, Nat.le_of_ble_eq_true rfl⟩
theorem EncodingLength.ldA_IndA16 (nn : Word) : EncodingLength.Statement (.ldA_IndA16 nn) := ⟨rfl, Nat.le_of_ble_eq_true rfl, Nat.le_of_ble_eq_true rfl⟩
theorem EncodingLength.cpD8 (n : Byte) : EncodingLength.Statement (.cpD8 n) := ⟨rfl, Nat.le_of_ble_eq_true rfl, Nat.le_of_ble_eq_true rfl⟩
theorem EncodingLength.rlB : EncodingLength.Statement .rlB := ⟨rfl, Nat.le_of_ble_eq_true rfl, Nat.le_of_ble_eq_true rfl⟩
theorem EncodingLength.rlC : EncodingLength.Statement .rlC := ⟨rfl, Nat.le_of_ble_eq_true rfl, Nat.le_of_ble_eq_true rfl⟩
theorem EncodingLength.rlD : EncodingLength.Statement .rlD := ⟨rfl, Nat.le_of_ble_eq_true rfl, Nat.le_of_ble_eq_true rfl⟩
theorem EncodingLength.rlE : EncodingLength.Statement .rlE := ⟨rfl, Nat.le_of_ble_eq_true rfl, Nat.le_of_ble_eq_true rfl⟩
theorem EncodingLength.rlH : EncodingLength.Statement .rlH := ⟨rfl, Nat.le_of_ble_eq_true rfl, Nat.le_of_ble_eq_true rfl⟩
theorem EncodingLength.rlL : EncodingLength.Statement .rlL := ⟨rfl, Nat.le_of_ble_eq_true rfl, Nat.le_of_ble_eq_true rfl⟩
theorem EncodingLength.rlIndHL : EncodingLength.Statement .rlIndHL := ⟨rfl, Nat.le_of_ble_eq_true rfl, Nat.le_of_ble_eq_true rfl⟩
theorem EncodingLength.rlA : EncodingLength.Statement .rlA := ⟨rfl, Nat.le_of_ble_eq_true rfl, Nat.le_of_ble_eq_true rfl⟩
theorem EncodingLength.bit0_B : EncodingLength.Statement .bit0_B := ⟨rfl, Nat.le_of_ble_eq_true rfl, Nat.le_of_ble_eq_true rfl⟩
theorem EncodingLength.bit0_C : EncodingLength.Statement .bit0_C := ⟨rfl, Nat.le_of_ble_eq_true rfl, Nat.le_of_ble_eq_true rfl⟩
theorem EncodingLength.bit0_D : EncodingLength.Statement .bit0_D := ⟨rfl, Nat.le_of_ble_eq_true rfl, Nat.le_of_ble_eq_true rfl⟩
theorem EncodingLength.bit0_E : EncodingLength.Statement .bit0_E := ⟨rfl, Nat.le_of_ble_eq_true rfl, Nat.le_of_ble_eq_true rfl⟩
theorem EncodingLength.bit0_H : EncodingLength.Statement .bit0_H := ⟨rfl, Nat.le_of_ble_eq_true rfl, Nat.le_of_ble_eq_true rfl⟩
theorem EncodingLength.bit0_L : EncodingLength.Statement .bit0_L := ⟨rfl, Nat.le_of_ble_eq_true rfl, Nat.le_of_ble_eq_true rfl⟩
theorem EncodingLength.bit0_IndHL : EncodingLength.Statement .bit0_IndHL := ⟨rfl, Nat.le_of_ble_eq_true rfl, Nat.le_of_ble_eq_true rfl⟩
theorem EncodingLength.bit0_A : EncodingLength.Statement .bit0_A := ⟨rfl, Nat.le_of_ble_eq_true rfl, Nat.le_of_ble_eq_true rfl⟩
theorem EncodingLength.bit1_B : EncodingLength.Statement .bit1_B := ⟨rfl, Nat.le_of_ble_eq_true rfl, Nat.le_of_ble_eq_true rfl⟩
theorem EncodingLength.bit1_C : EncodingLength.Statement .bit1_C := ⟨rfl, Nat.le_of_ble_eq_true rfl, Nat.le_of_ble_eq_true rfl⟩
theorem EncodingLength.bit1_D : EncodingLength.Statement .bit1_D := ⟨rfl, Nat.le_of_ble_eq_true rfl, Nat.le_of_ble_eq_true rfl⟩
theorem EncodingLength.bit1_E : EncodingLength.Statement .bit1_E := ⟨rfl, Nat.le_of_ble_eq_true rfl, Nat.le_of_ble_eq_true rfl⟩
theorem EncodingLength.bit1_H : EncodingLength.Statement .bit1_H := ⟨rfl, Nat.le_of_ble_eq_true rfl, Nat.le_of_ble_eq_true rfl⟩
theorem EncodingLength.bit1_L : EncodingLength.Statement .bit1_L := ⟨rfl, Nat.le_of_ble_eq_true rfl, Nat.le_of_ble_eq_true rfl⟩
theorem EncodingLength.bit1_IndHL : EncodingLength.Statement .bit1_IndHL := ⟨rfl, Nat.le_of_ble_eq_true rfl, Nat.le_of_ble_eq_true rfl⟩
theorem EncodingLength.bit1_A : EncodingLength.Statement .bit1_A := ⟨rfl, Nat.le_of_ble_eq_true rfl, Nat.le_of_ble_eq_true rfl⟩
theorem EncodingLength.bit2_B : EncodingLength.Statement .bit2_B := ⟨rfl, Nat.le_of_ble_eq_true rfl, Nat.le_of_ble_eq_true rfl⟩
theorem EncodingLength.bit2_C : EncodingLength.Statement .bit2_C := ⟨rfl, Nat.le_of_ble_eq_true rfl, Nat.le_of_ble_eq_true rfl⟩
theorem EncodingLength.bit2_D : EncodingLength.Statement .bit2_D := ⟨rfl, Nat.le_of_ble_eq_true rfl, Nat.le_of_ble_eq_true rfl⟩
theorem EncodingLength.bit2_E : EncodingLength.Statement .bit2_E := ⟨rfl, Nat.le_of_ble_eq_true rfl, Nat.le_of_ble_eq_true rfl⟩
theorem EncodingLength.bit2_H : EncodingLength.Statement .bit2_H := ⟨rfl, Nat.le_of_ble_eq_true rfl, Nat.le_of_ble_eq_true rfl⟩
theorem EncodingLength.bit2_L : EncodingLength.Statement .bit2_L := ⟨rfl, Nat.le_of_ble_eq_true rfl, Nat.le_of_ble_eq_true rfl⟩
theorem EncodingLength.bit2_IndHL : EncodingLength.Statement .bit2_IndHL := ⟨rfl, Nat.le_of_ble_eq_true rfl, Nat.le_of_ble_eq_true rfl⟩
theorem EncodingLength.bit2_A : EncodingLength.Statement .bit2_A := ⟨rfl, Nat.le_of_ble_eq_true rfl, Nat.le_of_ble_eq_true rfl⟩
theorem EncodingLength.bit3_B : EncodingLength.Statement .bit3_B := ⟨rfl, Nat.le_of_ble_eq_true rfl, Nat.le_of_ble_eq_true rfl⟩
theorem EncodingLength.bit3_C : EncodingLength.Statement .bit3_C := ⟨rfl, Nat.le_of_ble_eq_true rfl, Nat.le_of_ble_eq_true rfl⟩
theorem EncodingLength.bit3_D : EncodingLength.Statement .bit3_D := ⟨rfl, Nat.le_of_ble_eq_true rfl, Nat.le_of_ble_eq_true rfl⟩
theorem EncodingLength.bit3_E : EncodingLength.Statement .bit3_E := ⟨rfl, Nat.le_of_ble_eq_true rfl, Nat.le_of_ble_eq_true rfl⟩
theorem EncodingLength.bit3_H : EncodingLength.Statement .bit3_H := ⟨rfl, Nat.le_of_ble_eq_true rfl, Nat.le_of_ble_eq_true rfl⟩
theorem EncodingLength.bit3_L : EncodingLength.Statement .bit3_L := ⟨rfl, Nat.le_of_ble_eq_true rfl, Nat.le_of_ble_eq_true rfl⟩
theorem EncodingLength.bit3_IndHL : EncodingLength.Statement .bit3_IndHL := ⟨rfl, Nat.le_of_ble_eq_true rfl, Nat.le_of_ble_eq_true rfl⟩
theorem EncodingLength.bit3_A : EncodingLength.Statement .bit3_A := ⟨rfl, Nat.le_of_ble_eq_true rfl, Nat.le_of_ble_eq_true rfl⟩
theorem EncodingLength.bit4_B : EncodingLength.Statement .bit4_B := ⟨rfl, Nat.le_of_ble_eq_true rfl, Nat.le_of_ble_eq_true rfl⟩
theorem EncodingLength.bit4_C : EncodingLength.Statement .bit4_C := ⟨rfl, Nat.le_of_ble_eq_true rfl, Nat.le_of_ble_eq_true rfl⟩
theorem EncodingLength.bit4_D : EncodingLength.Statement .bit4_D := ⟨rfl, Nat.le_of_ble_eq_true rfl, Nat.le_of_ble_eq_true rfl⟩
theorem EncodingLength.bit4_E : EncodingLength.Statement .bit4_E := ⟨rfl, Nat.le_of_ble_eq_true rfl, Nat.le_of_ble_eq_true rfl⟩
theorem EncodingLength.bit4_H : EncodingLength.Statement .bit4_H := ⟨rfl, Nat.le_of_ble_eq_true rfl, Nat.le_of_ble_eq_true rfl⟩
theorem EncodingLength.bit4_L : EncodingLength.Statement .bit4_L := ⟨rfl, Nat.le_of_ble_eq_true rfl, Nat.le_of_ble_eq_true rfl⟩
theorem EncodingLength.bit4_IndHL : EncodingLength.Statement .bit4_IndHL := ⟨rfl, Nat.le_of_ble_eq_true rfl, Nat.le_of_ble_eq_true rfl⟩
theorem EncodingLength.bit4_A : EncodingLength.Statement .bit4_A := ⟨rfl, Nat.le_of_ble_eq_true rfl, Nat.le_of_ble_eq_true rfl⟩
theorem EncodingLength.bit5_B : EncodingLength.Statement .bit5_B := ⟨rfl, Nat.le_of_ble_eq_true rfl, Nat.le_of_ble_eq_true rfl⟩
theorem EncodingLength.bit5_C : EncodingLength.Statement .bit5_C := ⟨rfl, Nat.le_of_ble_eq_true rfl, Nat.le_of_ble_eq_true rfl⟩
theorem EncodingLength.bit5_D : EncodingLength.Statement .bit5_D := ⟨rfl, Nat.le_of_ble_eq_true rfl, Nat.le_of_ble_eq_true rfl⟩
theorem EncodingLength.bit5_E : EncodingLength.Statement .bit5_E := ⟨rfl, Nat.le_of_ble_eq_true rfl, Nat.le_of_ble_eq_true rfl⟩
theorem EncodingLength.bit5_H : EncodingLength.Statement .bit5_H := ⟨rfl, Nat.le_of_ble_eq_true rfl, Nat.le_of_ble_eq_true rfl⟩
theorem EncodingLength.bit5_L : EncodingLength.Statement .bit5_L := ⟨rfl, Nat.le_of_ble_eq_true rfl, Nat.le_of_ble_eq_true rfl⟩
theorem EncodingLength.bit5_IndHL : EncodingLength.Statement .bit5_IndHL := ⟨rfl, Nat.le_of_ble_eq_true rfl, Nat.le_of_ble_eq_true rfl⟩
theorem EncodingLength.bit5_A : EncodingLength.Statement .bit5_A := ⟨rfl, Nat.le_of_ble_eq_true rfl, Nat.le_of_ble_eq_true rfl⟩
theorem EncodingLength.bit6_B : EncodingLength.Statement .bit6_B := ⟨rfl, Nat.le_of_ble_eq_true rfl, Nat.le_of_ble_eq_true rfl⟩
theorem EncodingLength.bit6_C : EncodingLength.Statement .bit6_C := ⟨rfl, Nat.le_of_ble_eq_true rfl, Nat.le_of_ble_eq_true rfl⟩
theorem EncodingLength.bit6_D : EncodingLength.Statement .bit6_D := ⟨rfl, Nat.le_of_ble_eq_true rfl, Nat.le_of_ble_eq_true rfl⟩
theorem EncodingLength.bit6_E : EncodingLength.Statement .bit6_E := ⟨rfl, Nat.le_of_ble_eq_true rfl, Nat.le_of_ble_eq_true rfl⟩
theorem EncodingLength.bit6_H : EncodingLength.Statement .bit6_H := ⟨rfl, Nat.le_of_ble_eq_true rfl, Nat.le_of_ble_eq_true rfl⟩
theorem EncodingLength.bit6_L : EncodingLength.Statement .bit6_L := ⟨rfl, Nat.le_of_ble_eq_true rfl, Nat.le_of_ble_eq_true rfl⟩
theorem EncodingLength.bit6_IndHL : EncodingLength.Statement .bit6_IndHL := ⟨rfl, Nat.le_of_ble_eq_true rfl, Nat.le_of_ble_eq_true rfl⟩
theorem EncodingLength.bit6_A : EncodingLength.Statement .bit6_A := ⟨rfl, Nat.le_of_ble_eq_true rfl, Nat.le_of_ble_eq_true rfl⟩
theorem EncodingLength.bit7_B : EncodingLength.Statement .bit7_B := ⟨rfl, Nat.le_of_ble_eq_true rfl, Nat.le_of_ble_eq_true rfl⟩
theorem EncodingLength.bit7_C : EncodingLength.Statement .bit7_C := ⟨rfl, Nat.le_of_ble_eq_true rfl, Nat.le_of_ble_eq_true rfl⟩
theorem EncodingLength.bit7_D : EncodingLength.Statement .bit7_D := ⟨rfl, Nat.le_of_ble_eq_true rfl, Nat.le_of_ble_eq_true rfl⟩
theorem EncodingLength.bit7_E : EncodingLength.Statement .bit7_E := ⟨rfl, Nat.le_of_ble_eq_true rfl, Nat.le_of_ble_eq_true rfl⟩
theorem EncodingLength.bit7_H : EncodingLength.Statement .bit7_H := ⟨rfl, Nat.le_of_ble_eq_true rfl, Nat.le_of_ble_eq_true rfl⟩
theorem EncodingLength.bit7_L : EncodingLength.Statement .bit7_L := ⟨rfl, Nat.le_of_ble_eq_true rfl, Nat.le_of_ble_eq_true rfl⟩
theorem EncodingLength.bit7_IndHL : EncodingLength.Statement .bit7_IndHL := ⟨rfl, Nat.le_of_ble_eq_true rfl, Nat.le_of_ble_eq_true rfl⟩
theorem EncodingLength.bit7_A : EncodingLength.Statement .bit7_A := ⟨rfl, Nat.le_of_ble_eq_true rfl, Nat.le_of_ble_eq_true rfl⟩

end Sys2Proof.Laws
end

