-- ==== Sys2Proof/Tests/Slice0.lean ====
section
/-!
SUPPORT. The tests: each check on terms and images against an ill-formed case, encodings written out from the spec, single
steps with the expected values of 95_test_vectors.md, and, for every obligation with hypotheses, a case that meets them.
-/

open Sys2Proof Sys2Proof.Machine

namespace Sys2Proof.Tests

/-- A zero register file, running, with PC and the bytes there given: the premise of 95_test_vectors.md part 2. -/
def coreAt (pc : Word) (bytes : List Byte) : State where
  a := 0
  b := 0
  c := 0
  d := 0
  e := 0
  h := 0
  l := 0
  f := 0
  sp := 0
  pc := pc
  mem := Memory.writeBytes [] pc.toNat bytes
  run := .running

/-- The vector's place, 0x0100. -/
def core (bytes : List Byte) : State := coreAt 0x0100 bytes

/-- What a look at the state after one step shows, if there is one. -/
def after {α : Type} (s : State) (look : State → α) : Option α :=
  match step s with
  | .next t => some (look t)
  | .fault _ | .refused _ => none

/-- The term a byte list decodes to, with the length. -/
def decodedTerm (bytes : List Byte) : Except Failure (Opcode × Nat) :=
  match decode bytes with
  | .ok (i, len) => .ok (i.term, len)
  | .error g => .error g

/-- The failure of a decode, if it fails. -/
def decodeFailure (bytes : List Byte) : Option Failure :=
  match decode bytes with
  | .ok _ => none
  | .error g => some g

/-! ## Ill-formed terms and images are refused (40_executor.md R159, 20_memory.md R77) -/

theorem test_refuses_load_to_f : Opcode.admitted (.load (.register8 .f) (.register8 .a)) = false := by decide

theorem test_refuses_load_to_immediate : Opcode.admitted (.load (.data8 0x01) (.register8 .a)) = false := by decide

theorem test_refuses_load_from_af : Opcode.admitted (.load (.register16 .bc) (.register16 .af)) = false := by decide

theorem test_refuses_inc_of_immediate : Opcode.admitted (.inc (.data8 0x05)) = false := by decide

theorem test_refuses_dec_of_af : Opcode.admitted (.dec (.register16 .af)) = false := by decide

theorem test_refuses_sub_of_pair : Opcode.admitted (.sub (.register16 .bc)) = false := by decide

theorem test_refuses_cp_of_word : Opcode.admitted (.cp (.data16 0x1234)) = false := by decide

theorem test_refuses_xor_of_f : Opcode.admitted (.xor (.register8 .f)) = false := by decide

theorem test_refuses_rl_of_pair : Opcode.admitted (.rl (.register16 .de)) = false := by decide

theorem test_refuses_bit_of_immediate : Opcode.admitted (.complBit 0 (.data8 0x01)) = false := by decide

theorem test_refuses_ldInc_of_f : Opcode.admitted (.ldInc .f) = false := by decide

theorem test_refuses_ldDec_of_f : Opcode.admitted (.ldDec .f) = false := by decide

theorem test_refuses_push_of_af : Opcode.admitted (.push .af) = false := by decide

theorem test_refuses_pop_of_sp : Opcode.admitted (.pop .sp) = false := by decide

theorem test_refuses_long_image :
    imageFits (List.replicate 65537 0) = false :=
  by rw [imageFits, List.length_replicate]; decide

theorem test_accepts_full_image :
    imageFits (List.replicate 65536 0) = true :=
  by rw [imageFits, List.length_replicate]; decide

theorem test_admits_encoded_load : Opcode.admitted (.load (.register8 .b) (.addrRegister .hl)) = true := by decide

theorem test_instruction_is_wellFormed : Instr.wellFormed (.ldBC_d16 0xFFFF) = true := by decide

/-! ## Decoding: bytes written out from the spec (30_encoding.md section 4, 95_test_vectors.md S1 to S7, V1 to V14) -/

/-- R260. -/
theorem test_decode_nop : decodedTerm [0b00000000] = .ok (.nop, 1) := rfl

/-- R100, S2. -/
theorem test_decode_halt : decodedTerm [0b01110110] = .ok (.halt, 1) := rfl

/-- S4, 00 pp 0001. -/
theorem test_decode_ld_bc_d16 :
    decodedTerm [0b00000001, 0x34, 0x12] = .ok (.load (.register16 .bc) (.data16 0x1234), 3) :=
  rfl

/-- R176, pp = 11. -/
theorem test_decode_ld_sp_d16 :
    decodedTerm [0b00110001, 0xFE, 0xFF] = .ok (.load (.register16 .sp) (.data16 0xFFFE), 3) :=
  rfl

/-- R204, 00 pp 0011, pp = 10. -/
theorem test_decode_inc_hl : decodedTerm [0b00100011] = .ok (.inc (.register16 .hl), 1) := rfl

/-- R205, 00 pp 1011, pp = 01. -/
theorem test_decode_dec_de : decodedTerm [0b00011011] = .ok (.dec (.register16 .de), 1) := rfl

/-- R177. -/
theorem test_decode_ld_indBc_a : decodedTerm [0b00000010] = .ok (.load (.addrRegister .bc) (.register8 .a), 1) := rfl

/-- R178. -/
theorem test_decode_ld_a_indDe : decodedTerm [0b00011010] = .ok (.load (.register8 .a) (.addrRegister .de), 1) := rfl

/-- R179. -/
theorem test_decode_ld_hlInc_a : decodedTerm [0b00100010] = .ok (.ldInc .a, 1) := rfl

/-- R180. -/
theorem test_decode_ld_hlDec_a : decodedTerm [0b00110010] = .ok (.ldDec .a, 1) := rfl

/-- R200, 00 rrr 100, E = 011. -/
theorem test_decode_inc_e : decodedTerm [0b00011100] = .ok (.inc (.register8 .e), 1) := rfl

/-- R203, 00 110 101. -/
theorem test_decode_dec_indHl : decodedTerm [0b00110101] = .ok (.dec (.addrRegister .hl), 1) := rfl

/-- R174, 00 rrr 110, L = 101. -/
theorem test_decode_ld_l_d8 : decodedTerm [0b00101110, 0x9C] = .ok (.load (.register8 .l) (.data8 0x9C), 2) := rfl

/-- R175. -/
theorem test_decode_ld_indHl_d8 :
    decodedTerm [0b00110110, 0x7F] = .ok (.load (.addrRegister .hl) (.data8 0x7F), 2) :=
  rfl

/-- S1. -/
theorem test_decode_ld_b_indHl : decodedTerm [0b01000110] = .ok (.load (.register8 .b) (.addrRegister .hl), 1) := rfl

/-- S1. -/
theorem test_decode_ld_indHl_b : decodedTerm [0b01110000] = .ok (.load (.addrRegister .hl) (.register8 .b), 1) := rfl

/-- R99, 01 010 101. -/
theorem test_decode_ld_d_l : decodedTerm [0b01010101] = .ok (.load (.register8 .d) (.register8 .l), 1) := rfl

/-- R206, 10010 001. -/
theorem test_decode_sub_c : decodedTerm [0b10010001] = .ok (.sub (.register8 .c), 1) := rfl

/-- R208. -/
theorem test_decode_sub_d8 : decodedTerm [0b11010110, 0x05] = .ok (.sub (.data8 0x05), 2) := rfl

/-- R212, 10101 100. -/
theorem test_decode_xor_h : decodedTerm [0b10101100] = .ok (.xor (.register8 .h), 1) := rfl

/-- R210, 10111 110. -/
theorem test_decode_cp_indHl : decodedTerm [0b10111110] = .ok (.cp (.addrRegister .hl), 1) := rfl

/-- R211. -/
theorem test_decode_cp_d8 : decodedTerm [0b11111110, 0x90] = .ok (.cp (.data8 0x90), 2) := rfl

/-- R230. -/
theorem test_decode_rla : decodedTerm [0b00010111] = .ok (.rla, 1) := rfl

/-- R231, 00010 001. -/
theorem test_decode_rl_c : decodedTerm [0b11001011, 0b00010001] = .ok (.rl (.register8 .c), 2) := rfl

/-- S6, 01 111 100. -/
theorem test_decode_bit7_h : decodedTerm [0b11001011, 0b01111100] = .ok (.complBit 7 (.register8 .h), 2) := rfl

/-- V7: not HALT. -/
theorem test_decode_bit6_indHl : decodedTerm [0b11001011, 0b01110110] = .ok (.complBit 6 (.addrRegister .hl), 2) := rfl

/-- R250, 11 pp 0101. -/
theorem test_decode_push_bc : decodedTerm [0b11000101] = .ok (.push .bc, 1) := rfl

/-- R251. -/
theorem test_decode_push_af : decodedTerm [0b11110101] = .ok (.push .af, 1) := rfl

/-- R252, 11 pp 0001. -/
theorem test_decode_pop_de : decodedTerm [0b11010001] = .ok (.pop .de, 1) := rfl

/-- R181. -/
theorem test_decode_ldh_indA8_a : decodedTerm [0b11100000, 0x44] = .ok (.load (.addr8 0x44) (.register8 .a), 2) := rfl

/-- R182. -/
theorem test_decode_ldh_a_indA8 : decodedTerm [0b11110000, 0xFF] = .ok (.load (.register8 .a) (.addr8 0xFF), 2) := rfl

/-- R183. -/
theorem test_decode_ld_indC_a : decodedTerm [0b11100010] = .ok (.load (.addrRegister .c) (.register8 .a), 1) := rfl

/-- R186. -/
theorem test_decode_ld_a_indA16 :
    decodedTerm [0b11111010, 0x34, 0x12] = .ok (.load (.register8 .a) (.addr16 0x1234), 3) :=
  rfl

/-- R263. -/
theorem test_decode_jr : decodedTerm [0b00011000, 0xFE] = .ok (.jumpRMemOffset 0xFE, 2) := rfl

/-- R264. -/
theorem test_decode_jr_nz : decodedTerm [0b00100000, 0xFB] = .ok (.jumpRNZMemOffset 0xFB, 2) := rfl

/-- R265. -/
theorem test_decode_jr_z : decodedTerm [0b00101000, 0x10] = .ok (.jumpRZMemOffset 0x10, 2) := rfl

/-- R266. -/
theorem test_decode_call : decodedTerm [0b11001101, 0x00, 0x20] = .ok (.call 0x2000, 3) := rfl

/-- R267. -/
theorem test_decode_ret : decodedTerm [0b11001001] = .ok (.ret, 1) := rfl

/-- S5. -/
theorem test_decode_fails_truncated_word : decodeFailure [0x01, 0x34] = some (.endOfStream) := by decide

/-- R96. -/
theorem test_decode_fails_no_byte : decodeFailure [] = some (.endOfStream) := by decide

/-- V1. -/
theorem test_decode_fails_unknown_D3 : decodeFailure [0xD3] = some (.unknownOpcode 0xD3) := by decide

/-- V2. -/
theorem test_decode_fails_unknown_08 : decodeFailure [0x08] = some (.unknownOpcode 0x08) := by decide

/-- V3. -/
theorem test_decode_fails_unknown_2A : decodeFailure [0x2A] = some (.unknownOpcode 0x2A) := by decide

/-- V4. -/
theorem test_decode_fails_unknown_EE : decodeFailure [0xEE, 0x01] = some (.unknownOpcode 0xEE) := by decide

/-- V5. -/
theorem test_decode_fails_unknown_30 : decodeFailure [0x30, 0x01] = some (.unknownOpcode 0x30) := by decide

/-- V6. -/
theorem test_decode_fails_unknown_CB_00 : decodeFailure [0xCB, 0x00] = some (.unknownExtendedOpcode 0x00) := by decide

/-- S7. -/
theorem test_decode_fails_unknown_CB_FF : decodeFailure [0xCB, 0xFF] = some (.unknownExtendedOpcode 0xFF) := by decide

/-- A decode at an index of a stream (30_encoding.md R94). -/
theorem test_decode_reads_at_cursor : (decodeAt [0x00, 0xCB, 0x7C] 1).toOption = some (.bit7_H, 2) := rfl

theorem test_table_word_one_byte : decodeTableWord 8 0x41 = some .ldB_C := by decide

/-- The table gives BIT 7,H the match 0xCB7C (log entry 5). -/
theorem test_table_word_extended :
    decodeTableWord 16 0xCB7C = some .bit7_H ∧ decodeTableWord 16 0xCB76 = some .bit6_IndHL :=
  by decide

theorem test_table_word_operand_is_zero : decodeTableWord 8 0x01 = some (.ldBC_d16 0) := by decide

theorem test_fetch_word_runs_first :
    step (State.reset.withFetchWord 16 0xCB7C) = exec .bit7_H (State.reset.withFetchWord 16 0xCB7C) :=
  rfl

/-! ## Single steps: the vectors of 95_test_vectors.md part 2 -/

/-- V8. -/
theorem test_top_nop : after (coreAt 0xFFFE [0x00]) (fun t => (t.pc, t.run)) = some (0xFFFF, .running) := by decide

/-- V9. -/
theorem test_top_post_fetch :
    after (coreAt 0xFFFF [0x00]) (fun t => (t.run, t.pc)) = some (.faulted ⟨.endOfStream, 0xFFFF⟩, 0xFFFF) :=
  by decide

/-- V10. -/
theorem test_top_missing_operand :
    after (coreAt 0xFFFE [0x01, 0x00]) (fun t => (t.run, t.pc)) = some (.faulted ⟨.endOfStream, 0xFFFE⟩, 0xFFFE) :=
  by decide

/-- V11. -/
theorem test_top_word_post_fetch :
    after (coreAt 0xFFFD [0x01, 0x00, 0x00]) (fun t => (t.run, t.pc)) = some (.faulted ⟨.endOfStream, 0xFFFD⟩, 0xFFFD) :=
  by decide

/-- V13. -/
theorem test_top_prefix_alone :
    after (coreAt 0xFFFF [0xCB]) (fun t => (t.run, t.pc)) = some (.faulted ⟨.endOfStream, 0xFFFF⟩, 0xFFFF) :=
  by decide

/-- V14. -/
theorem test_top_extended_post_fetch :
    after (coreAt 0xFFFE [0xCB, 0x7C]) (fun t => (t.run, t.pc)) = some (.faulted ⟨.endOfStream, 0xFFFE⟩, 0xFFFE) :=
  by decide

/-- V12. -/
theorem test_top_word_fits :
    after (coreAt 0xFFFC [0x01, 0x00, 0x00]) (fun t => (t.run, t.pc)) = some (.running, 0xFFFF) :=
  by decide

/-- V15. -/
theorem test_top_extended_fits :
    after (coreAt 0xFFFD [0xCB, 0x7C]) (fun t => (t.f, t.pc)) = some (0x80, 0xFFFF) :=
  by decide

/-- V1. -/
theorem test_unknown_opcode_faults :
    after (core [0xD3]) (fun t => (t.run, t.pc)) = some (.faulted ⟨.unknownOpcode 0xD3, 0x0100⟩, 0x0100) :=
  by decide

/-- V20. -/
theorem test_ld_b_c :
    after { core [0x41] with c := 0x5A } (fun t => (t.b, t.pc, t.f)) = some (0x5A, 0x0101, 0x00) :=
  by decide

/-- V21. -/
theorem test_ld_indHl_a :
    after { core [0x77] with a := 0x99, h := 0xC1, l := 0x23 } (fun t => (t.readByte 0xC123, t.pc)) = some (0x99, 0x0101) :=
  by decide

/-- V22. -/
theorem test_ld_a_indHl :
    after (State.writeByte { core [0x7E] with h := 0xC1, l := 0x23 } 0xC123 0x42) (fun t => (t.a, t.pc)) =
      some (0x42, 0x0101) :=
  by decide

/-- V23. -/
theorem test_ld_indHl_d8 :
    after { core [0x36, 0x7F] with h := 0xFF, l := 0xFF } (fun t => (t.readByte 0xFFFF, t.pc)) = some (0x7F, 0x0102) :=
  by decide

/-- V24. -/
theorem test_ld_sp_d16 : after (core [0x31, 0xFE, 0xFF]) (fun t => (t.sp, t.pc)) = some (0xFFFE, 0x0103) := by decide

/-- V25. -/
theorem test_ld_hl_d16 :
    after (core [0x21, 0x34, 0x12]) (fun t => (t.h, t.l, t.pc)) = some (0x12, 0x34, 0x0103) :=
  by decide

/-- V26. -/
theorem test_ld_de_d16 :
    after (core [0x11, 0x00, 0x80]) (fun t => (t.d, t.e, t.pc)) = some (0x80, 0x00, 0x0103) :=
  by decide

/-- V27. -/
theorem test_ld_indBc_a :
    after { core [0x02] with a := 0x11, b := 0xC0 } (fun t => (t.readByte 0xC000, t.pc)) = some (0x11, 0x0101) :=
  by decide

/-- V28. -/
theorem test_ld_a_indDe :
    after (State.writeByte { core [0x1A] with f := 0x10 } 0x0000 0x31) (fun t => (t.a, t.pc, t.f)) =
      some (0x31, 0x0101, 0x10) :=
  by decide

/-- V29. -/
theorem test_ld_hlInc_a :
    after { core [0x22] with a := 0x33, h := 0xFF, l := 0xFF } (fun t => (t.readByte 0xFFFF, t.h, t.l, t.pc)) =
      some (0x33, 0x00, 0x00, 0x0101) :=
  by decide

/-- V30. -/
theorem test_ld_hlDec_a :
    after { core [0x32] with a := 0x44 } (fun t => (t.readByte 0x0000, t.h, t.l, t.pc)) = some (0x44, 0xFF, 0xFF, 0x0101) :=
  by decide

/-- V31. -/
theorem test_ldh_indA8_a :
    after { core [0xE0, 0x44] with a := 0x91 } (fun t => (t.readByte 0xFF44, t.pc)) = some (0x91, 0x0102) :=
  by decide

/-- V32. -/
theorem test_ldh_a_indA8 :
    after (State.writeByte { core [0xF0, 0xFF] with f := 0x00 } 0xFFFF 0x1F) (fun t => (t.a, t.pc)) = some (0x1F, 0x0102) :=
  by decide

/-- V33. -/
theorem test_ld_indC_a :
    after { core [0xE2] with a := 0x07 } (fun t => (t.readByte 0xFF00, t.pc)) = some (0x07, 0x0101) :=
  by decide

/-- V34. -/
theorem test_ld_a_indC :
    after (State.writeByte { core [0xF2] with c := 0x0F } 0xFF0F 0xE1) (fun t => (t.a, t.pc)) = some (0xE1, 0x0101) :=
  by decide

/-- V35. -/
theorem test_ld_indA16_a :
    after { core [0xEA, 0x00, 0xC0] with a := 0xAB } (fun t => (t.readByte 0xC000, t.pc)) = some (0xAB, 0x0103) :=
  by decide

/-- V36. -/
theorem test_ld_a_indA16 :
    after (State.writeByte { core [0xFA, 0x34, 0x12] with f := 0x00 } 0x1234 0xCD) (fun t => (t.a, t.pc)) =
      some (0xCD, 0x0103) :=
  by decide

/-- V40. -/
theorem test_inc_b :
    after { core [0x04] with b := 0xFF, f := 0x10 } (fun t => (t.b, t.f)) = some (0x00, 0x90) :=
  by decide

/-- V41. -/
theorem test_inc_a :
    after { core [0x3C] with a := 0x0F, f := 0x80 } (fun t => (t.a, t.f)) = some (0x10, 0x00) :=
  by decide

/-- V42. -/
theorem test_dec_c_to_zero : after { core [0x0D] with c := 0x01 } (fun t => (t.c, t.f)) = some (0x00, 0x80) := by decide

/-- V43. -/
theorem test_dec_c_wraps :
    after { core [0x0D] with c := 0x00, f := 0x80 } (fun t => (t.c, t.f)) = some (0xFF, 0x00) :=
  by decide

/-- V44. -/
theorem test_inc_indHl :
    after (State.writeByte { core [0x34] with h := 0xC0 } 0xC000 0xFF) (fun t => (t.readByte 0xC000, t.f)) =
      some (0x00, 0x80) :=
  by decide

/-- V45. -/
theorem test_dec_indHl :
    after { core [0x35] with h := 0xC0, f := 0x80 } (fun t => (t.readByte 0xC000, t.f)) = some (0xFF, 0x00) :=
  by decide

/-- V46. -/
theorem test_inc_bc :
    after { core [0x03] with b := 0xFF, c := 0xFF } (fun t => (t.b, t.c, t.f)) = some (0x00, 0x00, 0x00) :=
  by decide

/-- V47. -/
theorem test_dec_sp : after { core [0x3B] with f := 0x90 } (fun t => (t.sp, t.f)) = some (0xFFFF, 0x90) := by decide

/-- V48. -/
theorem test_inc_hl : after { core [0x23] with l := 0xFF } (fun t => (t.h, t.l)) = some (0x01, 0x00) := by decide

/-- V49. -/
theorem test_sub_b :
    after { core [0x90] with a := 0x10, b := 0x20 } (fun t => (t.a, t.f)) = some (0xF0, 0x10) :=
  by decide

/-- V50. -/
theorem test_sub_a :
    after { core [0x97] with a := 0x3C, f := 0x10 } (fun t => (t.a, t.f)) = some (0x00, 0x80) :=
  by decide

/-- V51. -/
theorem test_sub_d8 :
    after { core [0xD6, 0x05] with a := 0x05 } (fun t => (t.a, t.f, t.pc)) = some (0x00, 0x80, 0x0102) :=
  by decide

/-- V53. -/
theorem test_sub_indHl :
    after (State.writeByte { core [0x96] with a := 0x80, h := 0xC0 } 0xC000 0x01) (fun t => (t.a, t.f)) = some (0x7F, 0x00) :=
  by decide

/-- V54. -/
theorem test_cp_d8 : after { core [0xFE, 0x90] with a := 0x8F } (fun t => (t.a, t.f)) = some (0x8F, 0x10) := by decide

/-- V55. -/
theorem test_cp_b :
    after { core [0xB8] with a := 0x42, b := 0x42 } (fun t => (t.a, t.f)) = some (0x42, 0x80) :=
  by decide

/-- V56. -/
theorem test_cp_indHl :
    after (State.writeByte { core [0xBE] with a := 0x42, h := 0xC0, f := 0x90 } 0xC000 0x41) (fun t => (t.a, t.f)) =
      some (0x42, 0x00) :=
  by decide

/-- V57: XOR under a given value of XOR_FLAGS. -/
theorem test_xor_hw :
    (fun t : State => (t.a, t.f)) (opXor .hw { core [0xA8] with a := 0xF0, b := 0x0F, f := 0x90 } (.register8 .b)) = (0xFF, 0x00) :=
  by decide

/-- V58: XOR under a given value of XOR_FLAGS. -/
theorem test_xor_none :
    (fun t : State => (t.a, t.f)) (opXor .none { core [0xA8] with a := 0xF0, b := 0x0F, f := 0x90 } (.register8 .b)) = (0xFF, 0x90) :=
  by decide

/-- V59: XOR under a given value of XOR_FLAGS. -/
theorem test_xor_hw_zero :
    (fun t : State => (t.a, t.f)) (opXor .hw { core [0xA8] with a := 0xF0, b := 0xF0, f := 0x10 } (.register8 .b)) = (0x00, 0x80) :=
  by decide

/-- V60: XOR under a given value of XOR_FLAGS. -/
theorem test_xor_none_zero :
    (fun t : State => (t.a, t.f)) (opXor .none { core [0xA8] with a := 0xF0, b := 0xF0, f := 0x10 } (.register8 .b)) = (0x00, 0x10) :=
  by decide

/-- V61: XOR under a given value of XOR_FLAGS. -/
theorem test_xor_a_hw :
    (fun t : State => (t.a, t.f)) (opXor .hw { core [0xAF] with a := 0x5A, f := 0x10 } (.register8 .a)) = (0x00, 0x80) :=
  by decide

/-- V62: XOR under a given value of XOR_FLAGS. -/
theorem test_xor_indHl_hw :
    (fun t : State => (t.a, t.f)) (opXor .hw (State.writeByte { core [0xAE] with a := 0xFF, h := 0xC0 } 0xC000 0xFF) (.addrRegister .hl)) = (0x00, 0x80) :=
  by decide

/-- V63. -/
theorem test_rla :
    after { core [0x17] with a := 0x95, f := 0x10 } (fun t => (t.a, t.f)) = some (0x2B, 0x10) :=
  by decide

/-- V64. -/
theorem test_rla_keeps_z_clear :
    after { core [0x17] with a := 0x80 } (fun t => (t.a, t.f)) = some (0x00, 0x10) :=
  by decide

/-- V65. -/
theorem test_rl_b : after { core [0xCB, 0x10] with b := 0x80 } (fun t => (t.b, t.f)) = some (0x00, 0x90) := by decide

/-- V66. -/
theorem test_rl_a : after { core [0xCB, 0x17] with a := 0x80 } (fun t => (t.a, t.f)) = some (0x00, 0x90) := by decide

/-- V67. -/
theorem test_rl_indHl :
    after (State.writeByte { core [0xCB, 0x16] with h := 0xC0, f := 0x10 } 0xC000 0x7F) (fun t => (t.readByte 0xC000, t.f)) =
      some (0xFF, 0x00) :=
  by decide

/-- V68. -/
theorem test_bit7_h_set :
    after { core [0xCB, 0x7C] with h := 0x80, f := 0x10 } (fun t => (t.f, t.pc)) = some (0x10, 0x0102) :=
  by decide

/-- V69. -/
theorem test_bit7_h_clear : after { core [0xCB, 0x7C] with f := 0x10 } (fun t => t.f) = some 0x90 := by decide

/-- V70. -/
theorem test_bit0_a : after { core [0xCB, 0x47] with a := 0x01, f := 0x80 } (fun t => t.f) = some 0x00 := by decide

/-- V52. -/
theorem test_bit6_indHl :
    after (State.writeByte { core [0xCB, 0x76] with h := 0xC0 } 0xC000 0xBF) (fun t => (t.f, t.readByte 0xC000)) =
      some (0x80, 0xBF) :=
  by decide

/-- V71. -/
theorem test_push_bc :
    after { core [0xC5] with b := 0x12, c := 0x34, sp := 0xCFFE } (fun t => (t.readByte 0xCFFD, t.readByte 0xCFFC, t.sp)) =
      some (0x12, 0x34, 0xCFFC) :=
  by decide

/-- V72. -/
theorem test_push_hl_wraps :
    after { core [0xE5] with h := 0xBE, l := 0xEF, sp := 0x0001 } (fun t => (t.readByte 0x0000, t.readByte 0xFFFF, t.sp)) =
      some (0xBE, 0xEF, 0xFFFF) :=
  by decide

/-- V73. -/
theorem test_pop_de :
    after (State.writeByte (State.writeByte { core [0xD1] with sp := 0xCFFC } 0xCFFC 0x34) 0xCFFD 0x12) (fun t => (t.d, t.e, t.sp)) =
      some (0x12, 0x34, 0xCFFE) :=
  by decide

/-- V74. -/
theorem test_pop_bc_wraps :
    after (State.writeByte (State.writeByte { core [0xC1] with sp := 0xFFFF } 0xFFFF 0x78) 0x0000 0x56) (fun t => (t.b, t.c, t.sp)) =
      some (0x56, 0x78, 0x0001) :=
  by decide

/-- V75. -/
theorem test_push_af :
    after { core [0xF5] with sp := 0xD000, a := 0x12 } (fun t => (t.run, t.pc, t.sp, t.readByte 0xCFFF)) =
      some (.faulted ⟨.illegalOperand (.register16 .af), 0x0100⟩, 0x0100, 0xD000, 0x00) :=
  by decide

/-- V76. -/
theorem test_pop_af :
    after { core [0xF1] with sp := 0xD000 } (fun t => (t.run, t.pc, t.sp)) =
      some (.faulted ⟨.illegalOperand (.register16 .af), 0x0100⟩, 0x0100, 0xD000) :=
  by decide

/-- V77. -/
theorem test_nop : after (core [0x00]) (fun t => (t.pc, t.run)) = some (0x0101, .running) := by decide

/-- V78. -/
theorem test_halt : after (core [0x76]) (fun t => (t.pc, t.run)) = some (0x0101, .halted) := by decide

/-- V79. -/
theorem test_jr_forward :
    after { core [0x18, 0x05] with f := 0x00 } (fun t => (t.pc, t.f)) = some (0x0107, 0x00) :=
  by decide

/-- V81. -/
theorem test_jr_back :
    after { core [0x18, 0x80] with f := 0x00 } (fun t => (t.pc, t.f)) = some (0x0082, 0x00) :=
  by decide

/-- V83. -/
theorem test_jr_nz_taken :
    after { core [0x20, 0xFB] with f := 0x00 } (fun t => (t.pc, t.f)) = some (0x00FD, 0x00) :=
  by decide

/-- V84. -/
theorem test_jr_nz_untaken :
    after { core [0x20, 0xFB] with f := 0x80 } (fun t => (t.pc, t.f)) = some (0x0102, 0x80) :=
  by decide

/-- V85. -/
theorem test_jr_z_taken :
    after { core [0x28, 0x10] with f := 0x80 } (fun t => (t.pc, t.f)) = some (0x0112, 0x80) :=
  by decide

/-- V86. -/
theorem test_jr_z_untaken :
    after { core [0x28, 0x10] with f := 0x10 } (fun t => (t.pc, t.f)) = some (0x0102, 0x10) :=
  by decide

/-- V87. -/
theorem test_call :
    after { core [0xCD, 0x00, 0x20] with sp := 0xD000 } (fun t => (t.readByte 0xCFFF, t.readByte 0xCFFE, t.sp, t.pc)) =
      some (0x01, 0x03, 0xCFFE, 0x2000) :=
  by decide

/-- V88. -/
theorem test_ret :
    after (State.writeByte (State.writeByte { core [0xC9] with sp := 0xCFFE } 0xCFFE 0x03) 0xCFFF 0x01) (fun t => (t.pc, t.sp)) =
      some (0x0103, 0xD000) :=
  by decide

/-- V90, V89, V82. -/
theorem test_jr_wraps :
    relTarget 0x0012 0x80 = 0xFF92 ∧ relTarget 0xFFF2 0x02 = 0xFFF4 ∧ relTarget 0x0102 0x7F = 0x0181 :=
  by decide

/-- V91. -/
theorem test_check_v91 :
    checkTerm (.load (.register8 .f) (.register16 .af)) = some (.illegalOperand (.register8 .f)) :=
  by decide

/-- V92. -/
theorem test_check_v92 :
    checkTerm (.load (.data16 0x0001) (.register16 .af)) = some (.illegalOperand (.register16 .af)) :=
  by decide

/-- V93. -/
theorem test_check_v93 : checkTerm (.inc (.data8 0x05)) = some (.illegalOperand (.data8 0x05)) := by decide

/-- V94. -/
theorem test_check_v94 : checkTerm (.ldInc .f) = some (.illegalOperand (.register8 .f)) := by decide

/-- V95. -/
theorem test_check_v95 :
    checkTerm (.cp (.register16 .bc)) = some (.unimplementedOpcode (.cp (.register16 .bc))) :=
  by decide

/-- V37, S10. -/
theorem test_check_v37 :
    checkTerm (.load (.register8 .f) (.register8 .a)) = some (.illegalOperand (.register8 .f)) :=
  by decide

/-- V39. -/
theorem test_check_v39 :
    checkTerm (.load (.data8 0x01) (.register8 .a)) = some (.illegalOperand (.data8 0x01)) :=
  by decide

/-! ## The obligations' hypotheses can be met -/

theorem test_meets_StepRunsTheDecodedInstruction :
    (core [0x04]).run = .running ∧ decode (core [0x04]).fetch = .ok (.incB, 1) ∧
    (core [0x04]).pc.toNat + 1 < memSize :=
  ⟨rfl, rfl, by decide⟩

theorem test_meets_FetchAndDecodeFailuresFault :
    (core [0xD3]).run = .running ∧ decode (core [0xD3]).fetch = .error (.unknownOpcode 0xD3) ∧
    decode (coreAt 0xFFFF [0x00]).fetch = .ok (.nop, 1) ∧ memSize ≤ (coreAt 0xFFFF [0x00]).pc.toNat + 1 :=
  ⟨rfl, rfl, rfl, by decide⟩

theorem test_meets_FetchAndDecodeFailuresFault_fetch_edge :
    (coreAt 0xFFFE [0x01, 0x02]).fetch = [0x01, 0x02] ∧ (coreAt 0xFFFD [0x01, 0x02, 0x03]).fetch = [0x01, 0x02, 0x03] :=
  by decide

theorem test_meets_FailingCycleChangesOnlyTheRunState :
    ∃ t, step (core [0xD3]) = .next t ∧ t.run = .faulted ⟨.unknownOpcode 0xD3, 0x0100⟩ :=
  ⟨_, rfl, rfl⟩

theorem test_meets_StepExistsExactlyWhileRunning :
    (core []).run = .running ∧ { core [] with run := .halted }.run = .halted ∧
    { core [] with run := .faulted ⟨.endOfStream, 0⟩ }.run = .faulted ⟨.endOfStream, 0⟩ :=
  ⟨rfl, rfl, rfl⟩

theorem test_meets_LaunchGivesTheResetState :
    (List.replicate 65536 (0x76 : Byte)).length ≤ 65536 ∧ 65536 < (List.replicate 65537 (0x76 : Byte)).length :=
  by rw [List.length_replicate, List.length_replicate]; decide

theorem test_meets_StepKeepsTheInvariant_halt :
    ∃ t, Inv (core [0x76]) ∧ step (core [0x76]) = .next t ∧ t.run = .halted :=
  ⟨_, ⟨by decide, trivial⟩, rfl, rfl⟩

theorem test_meets_StepKeepsTheInvariant_fault :
    ∃ t, Inv (core [0xF5]) ∧ step (core [0xF5]) = .next t ∧ t.run = .faulted ⟨.illegalOperand (.register16 .af), 0x0100⟩ :=
  ⟨_, ⟨by decide, trivial⟩, rfl, rfl⟩

theorem test_meets_ReservedFlagBitsHoldForTheWholeRun :
    ∃ t, exec .incB { core [0x04] with f := 0x6F } = .next t ∧ Reaches { core [0x04] with f := 0x6F } t :=
  ⟨_, rfl, .tail (.refl _) rfl⟩

theorem test_meets_ReservedFlagBitsAreNotRead :
    ∃ t, (0x6F : Byte) &&& 0x90 = 0 ∧ exec .rla (core [0x17]) = .next t :=
  ⟨_, rfl, rfl⟩

theorem test_meets_FlagsAreReadOnlyByTheirReaders :
    ∃ t u, readsZ (Instr.term .rla) = false ∧ exec .rla (core []) = .next t ∧
    readsCy (Instr.term (.jrZ 0x10)) = false ∧ exec (.jrZ 0x10) (core []) = .next u :=
  ⟨_, _, rfl, rfl, rfl, rfl⟩

theorem test_meets_FlagsAreReadOnlyByTheirReaders_writers :
    writesZ (Instr.term .rla) = true ∧ writesZ (Instr.term .nop) = false ∧ writesCy (Instr.term (.cpD8 1)) = true ∧
    writesCy (Instr.term .incB) = false :=
  by decide

theorem test_meets_OnlyHaltAndAfStackFormsLeaveRunning :
    ∃ t u v, exec .halt (core []) = .next t ∧ exec .pushAF (core []) = .next u ∧ exec .nop (core []) = .next v :=
  ⟨_, _, _, rfl, rfl, rfl⟩

theorem test_meets_ByteRegisterFrame :
    ∃ t, exec .incB (core []) = .next t ∧ Reg8.c ≠ .f ∧ writesReg8 .c (Instr.term .incB) = false :=
  ⟨_, rfl, by decide, rfl⟩

theorem test_meets_StackPointerFrame :
    ∃ t, exec .pushAF (core []) = .next t ∧ writesSp (Instr.term .pushAF) = false :=
  ⟨_, rfl, rfl⟩

theorem test_meets_FlagFrame :
    ∃ t, exec .incB (core []) = .next t ∧ writesCy (Instr.term .incB) = false ∧ writesZ (Instr.term .incBC) = false :=
  ⟨_, rfl, rfl, rfl⟩

theorem test_meets_MemoryFrame :
    ∃ t, exec .pushBC (core []) = .next t ∧ (0x0000 : Word) ∉ storesTo ((core []).fetched 1) (Instr.term .pushBC) ∧
    storesTo ((core []).fetched 1) (Instr.term .pushBC) = [0xFFFF, 0xFFFE] :=
  ⟨_, rfl, by decide, by decide⟩

theorem test_meets_MemoryFrame_edges :
    storesTo (core []) (Instr.term .pushAF) = [] ∧ storesTo (core []) (Instr.term .incB) = [] ∧
    storesTo (core []) (Instr.term .incIndHL) = [0x0000] :=
  by decide

theorem test_meets_StraightLineInstructionsAdvancePc :
    ∃ t, exec (.cpD8 0x90) (core []) = .next t ∧ setsPc (Instr.term (.cpD8 0x90)) = false :=
  ⟨_, rfl, rfl⟩

theorem test_meets_DecodedBytesAreTheEncoding : decode [0xCD, 0x00, 0x20, 0xFF] = .ok (.call 0x2000, 3) := rfl

theorem test_meets_LoadBlockDecodesByTheOperandTable :
    ∀ b ∈ ([0x40, 0x75, 0x77, 0x7F] : List Byte), 0x40 ≤ b.toNat ∧ b.toNat < 0x80 ∧ b ≠ 0x76 :=
  by decide

theorem test_meets_HaltByteIsNeverALoad : decode [0x77] = .ok (.ldIndHL_A, 1) := rfl

theorem test_meets_ExtendedTableIsRlAndBit :
    decodeFailure [0xCB, 0x0F] = some (.unknownExtendedOpcode 0x0F) ∧ decodeFailure [0xCB, 0x10] = none ∧
    decodeFailure [0xCB, 0x17] = none ∧ decodeFailure [0xCB, 0x18] = some (.unknownExtendedOpcode 0x18) ∧
    decodeFailure [0xCB, 0x3F] = some (.unknownExtendedOpcode 0x3F) ∧ decodeFailure [0xCB, 0x40] = none ∧
    decodeFailure [0xCB, 0x7F] = none ∧ decodeFailure [0xCB, 0x80] = some (.unknownExtendedOpcode 0x80) :=
  by decide

theorem test_meets_UndecodedPrimaryBytesFail :
    decodeFailure [0xFF, 0x00, 0x00] = some (.unknownOpcode 0xFF) ∧ decodeFailure [0x00, 0x00, 0x00] = none ∧
    decodeFailure [0xFE, 0x00, 0x00] = none :=
  by decide

theorem test_meets_ImmediatesAreReadFromTheStream :
    primaryEntry 0x06 = .two .ldB_d8 ∧ primaryEntry 0x01 = .three .ldBC_d16 :=
  ⟨rfl, rfl⟩

theorem test_meets_PairWritesReadBack :
    (Reg16.sp ≠ .af) ∧ ((core []).setReg16 .hl 0xFFFF).reg16 .hl = 0xFFFF :=
  by decide

theorem test_meets_PairWritesReadBack_byte :
    (Reg8.l ≠ .f) ∧ (Reg8.f ≠ .l) ∧ ((core []).setReg8 .l 0x5A).l = 0x5A ∧ ((core []).setReg8 .l 0x5A).f = 0x00 :=
  by decide

theorem test_meets_FlagSettersWriteOneBit :
    ((core []).setZ true).f = 0x80 ∧ ((core []).setCy true).f = 0x10 ∧ ({ core [] with f := 0xFF }.setZ false).f = 0x7F ∧
    ({ core [] with f := 0xFF }.setCy false).f = 0xEF :=
  by decide

theorem test_meets_EveryByteOfMemoryIsReadableAndWritable :
    (0x0000 : Word) ≠ 0xFFFF ∧ ((core []).writeByte 0xFFFF 0x7F).readByte 0xFFFF = 0x7F ∧
    (((core []).writeByte 0x0000 0x01).writeByte 0x0000 0x00).mem = [] :=
  by decide

theorem test_meets_CanonicalMemoriesAreEqualWhenTheyReadEqual :
    ∃ m m' : Memory, m.wf ∧ m'.wf ∧ m ≠ [] ∧ ∀ x, x < memSize → m.read x = m'.read x :=
  ⟨[(0xFFFF, 0x01)], [(0xFFFF, 0x01)], by decide, by decide, by decide, fun _ _ => rfl⟩

theorem test_meets_SlotsReadAndWriteTheirLocations :
    effAddr (core []) (.addr8 0xFF) = some 0xFFFF ∧ (Reg8.a ≠ .f) ∧ (Reg16.sp ≠ .af) :=
  by decide

theorem test_meets_SlotsReadAndWriteTheirLocations_destination :
    ∃ u, execute (.load (.register8 .a) (.data8 1)) (core []) = .ok u ∧
    Slot.register8 .a ∈ destinationsOf (.load (.register8 .a) (.data8 1)) :=
  ⟨_, rfl, by decide⟩

theorem test_meets_ChecksAdmitExactlyTheAdmittedShapes :
    Opcode.admitted (.xor (.data8 0x0F)) = true ∧ checkTerm (.xor (.data8 0x0F)) = none :=
  by decide

theorem test_meets_ChecksAdmitExactlyTheAdmittedShapes_not :
    Opcode.admitted (.xor (.data16 0x0F)) = false ∧
    checkTerm (.xor (.data16 0x0F)) =
      some (.unimplementedOpcode (.xor (.data16 0x0F))) :=
  by decide

theorem test_meets_TermsOutsideTheEncodings :
    (∃ n, (Slot.data16 0x0001) = .data16 n) ∧ (Slot.register8 .a ≠ .register8 .f) ∧ (Slot.register8 .a ≠ .register16 .af) ∧ (Reg16.hl ≠ .af) :=
  ⟨⟨_, rfl⟩, by decide, by decide, by decide⟩

theorem test_meets_LoadRegisterFromRegister : Instr.term (.ldA_A) = .load (.register8 .a) (.register8 .a) := rfl

theorem test_meets_LoadRegisterFromHl : Instr.term (.ldH_IndHL) = .load (.register8 .h) (.addrRegister .hl) := rfl

theorem test_meets_StoreRegisterAtHl : Instr.term (.ldIndHL_L) = .load (.addrRegister .hl) (.register8 .l) := rfl

theorem test_meets_LoadByteImmediate : Instr.term (.ldA_d8 0xFF) = .load (.register8 .a) (.data8 0xFF) := rfl

theorem test_meets_IncAndDecByteRegister :
    Instr.term .incA = .inc (.register8 .a) ∧ Instr.term .decB = .dec (.register8 .b) :=
  ⟨rfl, rfl⟩

theorem test_meets_IncAndDecRegisterPair :
    Instr.term .incSP = .inc (.register16 .sp) ∧ Instr.term .decBC = .dec (.register16 .bc) :=
  ⟨rfl, rfl⟩

theorem test_meets_SubtractFromAccumulator : Instr.term .subA = .sub (.register8 .a) := rfl

theorem test_meets_CompareWithAccumulator : Instr.term .cpL = .cp (.register8 .l) := rfl

theorem test_meets_ExclusiveOrWithAccumulator : Instr.term .xorA = .xor (.register8 .a) := rfl

theorem test_meets_RotateLeftThroughCarry : Instr.term .rlA = .rl (.register8 .a) := rfl

theorem test_meets_BitTestSetsZeroToTheComplement :
    Instr.term .bit0_B = .complBit 0 (.register8 .b) ∧ Instr.term .bit7_IndHL = .complBit 7 (.addrRegister .hl) :=
  ⟨rfl, rfl⟩

theorem test_meets_PushAndPopMoveAPair :
    Instr.term .pushHL = .push .hl ∧ Instr.term .popBC = .pop .bc ∧ (Reg16.hl ≠ .af) ∧ (Reg16.bc ≠ .af) :=
  ⟨rfl, rfl, by decide, by decide⟩

theorem test_meets_NopOnlyAdvancesPc :
    (coreAt 0xFFFF [0x00]).run = .running ∧ (coreAt 0xFFFF [0x00]).readByte 0xFFFF = 0x00 ∧
    (coreAt 0xFFFE [0x00]).readByte 0xFFFE = 0x00 :=
  by decide

theorem test_meets_NopOnlyAdvancesPc_launch :
    ∃ s, State.launch Config.resetRegs [0x76] = .ok s ∧ ([0x76] : List Byte).length ≤ (0x0001 : Word).toNat :=
  ⟨_, rfl, by decide⟩

theorem test_meets_JumpToItselfHangs :
    (coreAt 0xFFFD [0x18, 0xFE]).run = .running ∧ (coreAt 0xFFFD [0x18, 0xFE]).readByte 0xFFFD = 0x18 ∧
    (coreAt 0xFFFD [0x18, 0xFE]).readByte 0xFFFE = 0xFE ∧ (coreAt 0xFFFD [0x18, 0xFE]).pc.toNat + 2 < memSize :=
  by decide

theorem test_meets_NextFetchSeesTheStore :
    let s := { core [0x77] with h := 0x01, l := 0x01, a := 0x76 }
    s.run = .running ∧ s.readByte s.pc = 0x77 ∧ s.reg16 .hl = s.pc + 1 ∧ s.a = 0x76 ∧ s.pc.toNat + 2 < memSize ∧
    decode (s.a :: s.mem.bytesFrom (s.pc.toNat + 2) 2) = .ok (.halt, 1) :=
  ⟨rfl, by decide, by decide, rfl, by decide, rfl⟩

theorem test_meets_NextFetchSeesTheStore_failure :
    let s := { core [0x77] with h := 0x01, l := 0x01, a := 0xD3 }
    s.run = .running ∧ s.readByte s.pc = 0x77 ∧ s.reg16 .hl = s.pc + 1 ∧ s.pc.toNat + 1 < memSize ∧
    decode (s.a :: s.mem.bytesFrom (s.pc.toNat + 2) 2) = .error (.unknownOpcode 0xD3) :=
  ⟨rfl, by decide, by decide, by decide, rfl⟩

theorem test_meets_NextFetchSeesTheStore_top :
    let s := { coreAt 0xFFFE [0x77] with h := 0xFF, l := 0xFF }
    s.run = .running ∧ s.readByte s.pc = 0x77 ∧ s.reg16 .hl = s.pc + 1 ∧ s.pc.toNat + 1 < memSize ∧
    decode (s.a :: s.mem.bytesFrom (s.pc.toNat + 2) 2) = .ok (.nop, 1) ∧ ¬ s.pc.toNat + 1 + 1 < memSize :=
  ⟨rfl, by decide, by decide, by decide, rfl, by decide⟩

theorem test_meets_NextFetchSeesTheStore_fetch :
    ((core []).writeByte 0x0102 0x7F).fetch = [0x00, 0x00, 0x7F] ∧ ((core []).writeByte 0x0103 0x7F).fetch = [0x00, 0x00, 0x00] :=
  by decide

end Sys2Proof.Tests
end

section
/-!
The register file and the flags (10_state.md R33, R37): a pair as the shift and the or of its halves, and a flag setter as the
replacement of one bit of F.
-/

namespace Sys2Proof.Machine

/-! ## Pairs -/

theorem joinBytes_eq_shiftLeft_or (h l : Byte) : joinBytes h l = (h.setWidth 16 <<< 8) ||| l.setWidth 16 := by
  unfold joinBytes
  rw [← BitVec.setWidth_append_eq_shiftLeft_setWidth_or, BitVec.setWidth_eq]

/-- Settles O28: each pair of R33 is the join of its halves, and a join is a shift and an or. -/
theorem pairsAreViewsOfTheirHalves : Obligations.PairsAreViewsOfTheirHalves := by
  intro s
  exact ⟨joinBytes_eq_shiftLeft_or s.a s.f, joinBytes_eq_shiftLeft_or s.b s.c, joinBytes_eq_shiftLeft_or s.d s.e,
    joinBytes_eq_shiftLeft_or s.h s.l⟩

/-! ## Flags -/

@[simp] theorem State.setZ_f (s : State) (b : Bool) : (s.setZ b).f = withZ s.f b := rfl
@[simp] theorem State.setCy_f (s : State) (b : Bool) : (s.setCy b).f = withCy s.f b := rfl

/-- The whole state after `Z <- b`, in R37's own formula. -/
theorem State.setZ_eq (s : State) (b : Bool) :
    s.setZ b = { s with f := (s.f &&& 0x7F) ||| ((if b then 1 else 0) <<< 7) } := by
  cases b <;> rfl

/-- The whole state after `Cy <- b`, in R37's own formula. -/
theorem State.setCy_eq (s : State) (b : Bool) :
    s.setCy b = { s with f := (s.f &&& 0xEF) ||| ((if b then 1 else 0) <<< 4) } := by
  cases b <;> rfl

/-- Masking bit `n` out of a byte and putting `b` there replaces that bit and keeps the others: the idea behind R37's setters. -/
theorem getLsbD_replaceBit (f : Byte) (b : Bool) {mask bit : Byte} {n k : Nat}
    (hbit : bit = BitVec.twoPow 8 n) (hmask : mask = ~~~bit) (hk : k < 8) :
    ((f &&& mask) ||| (if b then bit else 0)).getLsbD k = if k = n then b else f.getLsbD k := by
  subst hbit hmask
  by_cases hkn : k = n
  · subst hkn
    cases b <;> simp [hk]
  · cases b <;> simp [hk, hkn]

theorem withZ_getLsbD (f : Byte) (b : Bool) {k : Nat} (hk : k < 8) :
    (withZ f b).getLsbD k = if k = 7 then b else f.getLsbD k :=
  getLsbD_replaceBit f b (by decide) (by decide) hk

theorem withCy_getLsbD (f : Byte) (b : Bool) {k : Nat} (hk : k < 8) :
    (withCy f b).getLsbD k = if k = 4 then b else f.getLsbD k :=
  getLsbD_replaceBit f b (by decide) (by decide) hk

/-- Settles O30: each setter writes F alone, and in F replaces the flag's own bit. -/
theorem flagSettersWriteOneBit : Obligations.FlagSettersWriteOneBit := by
  intro s b
  refine ⟨⟨State.setZ_eq s b, fun k hk => ?_⟩, ⟨State.setCy_eq s b, fun k hk => ?_⟩⟩
  · rw [State.setZ_f, withZ_getLsbD s.f b hk]
  · rw [State.setCy_f, withCy_getLsbD s.f b hk]

end Sys2Proof.Machine
end

section
/-!
Memory seen through the state (20_memory.md R61, R62): what a byte read returns after a byte write, at every address.
-/

namespace Sys2Proof.Machine

/-- The state's form of `Memory.read_write`: two addresses name one cell exactly when they are the same word. -/
theorem State.readByte_writeByte (s : State) (addr : Word) (v : Byte) (x : Word) :
    (s.writeByte addr v).readByte x = if x = addr then v else s.readByte x := by
  have hcell : (s.writeByte addr v).readByte x = if x.toNat = addr.toNat then v else s.readByte x :=
    Memory.read_write s.mem addr.toNat v x.toNat
  rw [hcell]
  simp only [BitVec.toNat_inj]

@[simp] theorem State.readByte_writeByte_same (s : State) (addr : Word) (v : Byte) :
    (s.writeByte addr v).readByte addr = v := by
  rw [State.readByte_writeByte, if_pos rfl]

theorem State.readByte_writeByte_other (s : State) {addr x : Word} (v : Byte) (h : x ≠ addr) :
    (s.writeByte addr v).readByte x = s.readByte x := by
  rw [State.readByte_writeByte, if_neg h]

/-- A byte write is a change of memory alone. -/
theorem State.writeByte_eq (s : State) (addr : Word) (v : Byte) :
    s.writeByte addr v = { s with mem := (s.writeByte addr v).mem } := rfl

/-- Settles O31: a write is read back at its own address, is not seen at any other, and writes memory alone. -/
theorem everyByteOfMemoryIsReadableAndWritable : Obligations.EveryByteOfMemoryIsReadableAndWritable := by
  intro s addr v
  exact ⟨State.readByte_writeByte_same s addr v, fun _ h => State.readByte_writeByte_other s v h,
    State.writeByte_eq s addr v⟩

end Sys2Proof.Machine
end

section
/-!
The decoder's formats (30_encoding.md R98, R102 to R104): what a missing byte does, and the dispatch after 0xCB. With them the
immediates, as a slot or a jump reads them.
-/

namespace Sys2Proof

open Machine

/-! ## Missing bytes and the extended table -/

theorem decode_two_truncated {b : Byte} {mk : Byte → Instr} (h : primaryEntry b = .two mk) :
    decode [b] = .error .endOfStream := by simp [decode, h]

theorem decode_three_truncated {b : Byte} {mk : Word → Instr} (h : primaryEntry b = .three mk) :
    decode [b] = .error .endOfStream := by simp [decode, h]

theorem decode_three_truncated_after_low {b : Byte} {mk : Word → Instr} (h : primaryEntry b = .three mk) (l : Byte) :
    decode [b, l] = .error .endOfStream := by simp [decode, h]

theorem decode_extended_truncated {b : Byte} (h : primaryEntry b = .extended) :
    decode [b] = .error .endOfStream := by simp [decode, h]

theorem decode_extended_some {b b1 : Byte} {i : Instr} (h : primaryEntry b = .extended) (h1 : extendedEntry b1 = some i)
    (rest : List Byte) : decode (b :: b1 :: rest) = .ok (i, 2) := by simp [decode, h, h1]

theorem decode_extended_none {b b1 : Byte} (h : primaryEntry b = .extended) (h1 : extendedEntry b1 = none)
    (rest : List Byte) : decode (b :: b1 :: rest) = .error (.unknownExtendedOpcode b1) := by simp [decode, h, h1]

theorem primaryEntry_0xCB : primaryEntry 0xCB = .extended := rfl

/-- Settles O24: the 0xCB cell leads to the extended table, which has the second byte or lacks it. -/
theorem extendedPrefixDispatchesOnTheSecondByte : Obligations.ExtendedPrefixDispatchesOnTheSecondByte := by
  refine ⟨fun b1 rest => ?_, decode_extended_truncated primaryEntry_0xCB, decode_extended_none primaryEntry_0xCB rfl []⟩
  cases h1 : extendedEntry b1 with
  | some i => exact decode_extended_some primaryEntry_0xCB h1 rest
  | none => exact decode_extended_none primaryEntry_0xCB h1 rest

/-! ## Immediates -/

@[simp] theorem readSlot_data8 (s : State) (n : Byte) : readSlot s (.data8 n) = n.setWidth 16 := rfl

@[simp] theorem effAddr_addr8 (s : State) (n : Byte) : effAddr s (.addr8 n) = some (0xFF00 + n.setWidth 16) := rfl

/-- Sign extension of the displacement is addition of its two's complement value (R106). -/
theorem relTarget_eq_add_ofInt (pc : Word) (e : Byte) : relTarget pc e = pc + BitVec.ofInt 16 e.toInt := rfl

/-- Settles O27: formats F2 and F3 one by one, the spec's example at 0x01, and each immediate as its reader takes it. -/
theorem immediatesAreReadFromTheStream : Obligations.ImmediatesAreReadFromTheStream := by
  have entry01 : primaryEntry 0x01 = .three .ldBC_d16 := rfl
  refine ⟨fun b0 n mk rest h => ?_, fun b0 l hi mk rest h => ?_, ?_, ?_, fun s n => ?_, fun e => ?_⟩
  · exact ⟨decode_two h n rest, decode_two_truncated h⟩
  · exact ⟨⟨joinBytes hi l, joinBytes_toNat hi l, decode_three h l hi rest⟩, decode_three_truncated h,
      decode_three_truncated_after_low h l⟩
  · exact ⟨.ldBC_d16 0x1234, decode_three entry01 0x34 0x12 [], rfl⟩
  · exact decode_three_truncated_after_low entry01 0x34
  · exact ⟨readSlot_data8 s n, effAddr_addr8 s n⟩
  · exact ⟨rfl, rfl, rfl, fun pc => relTarget_eq_add_ofInt pc e⟩

end Sys2Proof
end

section
/-!
The load block (30_encoding.md R99, R100): a byte of 0x40 to 0x7F is `01 ddd sss`, and unless it is HALT's 0x76 its cell of the
primary map holds the load between the operands of `ddd` and `sss`.
-/

namespace Sys2Proof

/-- The byte `01 ddd sss` of R99. -/
def loadByte (d s : BitVec 3) : Byte := 0b01#2 ++ d ++ s

/-- The operand table's entry for a 3-bit field (R108). -/
def operandOf (x : BitVec 3) : Slot := operandTable[x.toNat]'x.isLt

theorem operandTable_getElem?_toNat (x : BitVec 3) : operandTable[x.toNat]? = some (operandOf x) :=
  List.getElem?_eq_getElem x.isLt

/-- The table is in the order of the encoder's codes. -/
theorem operandOf_code : ∀ x : BitVec 3, (operandOf x).code = some x := by decide

theorem loadByte_toNat (d s : BitVec 3) : (loadByte d s).toNat = 0x40 + (d.toNat * 8 + s.toNat) := by
  unfold loadByte
  rw [BitVec.toNat_append, BitVec.toNat_append, ← Nat.shiftLeft_add_eq_or_of_lt s.isLt,
    ← Nat.shiftLeft_add_eq_or_of_lt d.isLt]
  simp only [BitVec.toNat_ofNat, Nat.shiftLeft_eq]
  omega

/-- Every byte of the block has the form `01 ddd sss`. -/
theorem exists_eq_loadByte {b : Byte} (hlo : 0x40 ≤ b.toNat) (hhi : b.toNat < 0x80) : ∃ d s, b = loadByte d s := by
  refine ⟨BitVec.ofNat 3 (b.toNat / 8), BitVec.ofNat 3 b.toNat, BitVec.eq_of_toNat_eq ?_⟩
  simp only [loadByte_toNat, BitVec.toNat_ofNat]
  omega

theorem loadByte_dst_index (d s : BitVec 3) : ((loadByte d s).toNat - 0x40) >>> 3 = d.toNat := by
  rw [loadByte_toNat, Nat.shiftRight_eq_div_pow]
  omega

theorem loadByte_src_index (d s : BitVec 3) : ((loadByte d s).toNat - 0x40) &&& 7 = s.toNat := by
  rw [loadByte_toNat, Nat.and_two_pow_sub_one_eq_mod _ 3]
  omega

/-- The decoded term of a cell of format F1. -/
def Entry.oneTerm : Entry → Option Opcode
  | .one i => some i.term
  | _ => none

theorem Entry.exists_of_oneTerm {e : Entry} {t : Opcode} (h : e.oneTerm = some t) : ∃ i, e = .one i ∧ i.term = t := by
  cases e with
  | one i => exact ⟨i, rfl, Option.some.inj h⟩
  | _ => cases h

/-- The block of the primary map, cell by cell: the only byte that is not the load of its two fields is 0x76. -/
theorem oneTerm_primaryEntry_loadByte : ∀ d s : BitVec 3, loadByte d s ≠ 0x76 →
    (primaryEntry (loadByte d s)).oneTerm = some (.load (operandOf d) (operandOf s)) := by decide

/-- Settles O22: split the byte into its two fields, then read its cell of the primary map. -/
theorem loadBlockDecodesByTheOperandTable : Obligations.LoadBlockDecodesByTheOperandTable := by
  intro b rest hlo hhi hhalt
  obtain ⟨d, s, rfl⟩ := exists_eq_loadByte hlo hhi
  obtain ⟨i, hentry, hterm⟩ := Entry.exists_of_oneTerm (oneTerm_primaryEntry_loadByte d s hhalt)
  refine ⟨i, operandOf d, operandOf s, d, s, decode_one hentry rest, hterm, ?_, ?_, operandOf_code d, operandOf_code s, rfl⟩
  · rw [loadByte_dst_index, operandTable_getElem?_toNat]
  · rw [loadByte_src_index, operandTable_getElem?_toNat]

/-- Stronger than R100 asks: the term is not merely never decoded, no instruction stands for it. -/
theorem Instr.term_ne_load_indHL_indHL (i : Instr) : i.term ≠ .load (.addrRegister .hl) (.addrRegister .hl) := by
  cases i <;> nofun

/-- Settles O23: HALT's cell is of format F1, and what the decoder answers is an instruction. -/
theorem haltByteIsNeverALoad : Obligations.HaltByteIsNeverALoad := by
  have entry76 : primaryEntry 0x76 = .one .halt := rfl
  exact ⟨decode_one entry76, fun _ i _ _ => i.term_ne_load_indHL_indHL⟩

end Sys2Proof
end

section
/-!
Slots and checks (40_executor.md R143, R144, R146 to R149): a memory slot is the byte at its effective address, and a term
executes exactly when each of its checks passes.
-/

namespace Sys2Proof.Machine

/-! ## Memory slots -/

/-- `ReadSlot` of R144 for every memory slot at once. -/
theorem readSlot_of_effAddr {s : State} {slot : Slot} {x : Word} (h : effAddr s slot = some x) :
    readSlot s slot = (s.readByte x).setWidth 16 := by
  cases slot with
  | addrRegister | addr8 | addr16 => cases h; rfl
  | register8 | register16 | data8 | data16 => cases h

/-- `WriteSlot` of R144 for every memory slot at once. -/
theorem writeSlot_of_effAddr {s : State} {slot : Slot} {x : Word} (h : effAddr s slot = some x) (v : Word) :
    writeSlot s slot v = s.writeByte x (v.setWidth 8) := by
  rw [← loByte_eq_setWidth]
  cases slot with
  | addrRegister | addr8 | addr16 => cases h; rfl
  | register8 | register16 | data8 | data16 => cases h

/-! ## Registers -/

@[simp] theorem readSlot_register8 (s : State) (r : Reg8) : readSlot s (.register8 r) = (s.reg8 r).setWidth 16 := rfl

@[simp] theorem writeSlot_register8 (s : State) (r : Reg8) (v : Word) :
    writeSlot s (.register8 r) v = s.setReg8 r (v.setWidth 8) := by
  rw [← loByte_eq_setWidth]
  rfl

@[simp] theorem readSlot_register16 (s : State) (p : Reg16) : readSlot s (.register16 p) = s.reg16 p := rfl

@[simp] theorem writeSlot_register16 (s : State) (p : Reg16) (v : Word) :
    writeSlot s (.register16 p) v = s.setReg16 p v := rfl

/-! ## The checks -/

/-- R148: a term passes when no operand is F or AF, no destination is an immediate and its shape has a rule. -/
theorem checkTerm_eq_none_iff (op : Opcode) :
    checkTerm op = none ↔
      (∀ slot ∈ operandsOf op, isForbidden slot = false) ∧ (∀ slot ∈ destinationsOf op, isImmediate slot = false) ∧
        shapeHasRule op = true := by
  have hnone (p : Slot → Bool) (l : List Slot) : (∀ slot ∈ l, p slot = false) ↔ l.find? p = none := by simp
  rw [hnone, hnone]
  unfold checkTerm
  cases (operandsOf op).find? isForbidden with
  | some slot => simp
  | none =>
    cases (destinationsOf op).find? isImmediate with
    | some slot => simp
    | none => simp

/-- R142: execute answers with a state exactly when the checks pass, and the state is the term's effect. -/
theorem execute_eq_ok_iff (op : Opcode) (t u : State) : execute op t = .ok u ↔ checkTerm op = none ∧ perform t op = u := by
  unfold execute
  cases checkTerm op <;> simp

/-- R147 (b): the immediate-destination check is one of those a term that executes has passed. -/
theorem isImmediate_destination_of_execute_ok {op : Opcode} {t u : State} {dst : Slot} (h : execute op t = .ok u)
    (hdst : dst ∈ destinationsOf op) : isImmediate dst = false := by
  obtain ⟨hcheck, -⟩ := (execute_eq_ok_iff op t u).mp h
  obtain ⟨-, himm, -⟩ := (checkTerm_eq_none_iff op).mp hcheck
  exact himm dst hdst

/-- Settles O33: the effective addresses are R143's table, a memory slot is the byte at its address, a register slot is its
register, and an immediate destination does not pass the checks. -/
theorem slotsReadAndWriteTheirLocations : Obligations.SlotsReadAndWriteTheirLocations := by
  refine ⟨fun s n a => ⟨rfl, rfl, rfl, rfl, effAddr_addr8 s n, rfl⟩, fun s slot x h => ⟨?_, writeSlot_of_effAddr h⟩,
    fun s r v _ => ⟨?_, writeSlot_register8 s r v⟩, fun s p v _ => ⟨readSlot_register16 s p, writeSlot_register16 s p v⟩,
    fun s n m => ⟨?_, rfl⟩, fun op t u dst => isImmediate_destination_of_execute_ok⟩
  · rw [readSlot_of_effAddr h, BitVec.toNat_setWidth_of_le (by decide)]
  · rw [readSlot_register8, BitVec.toNat_setWidth_of_le (by decide)]
  · rw [readSlot_data8, BitVec.toNat_setWidth_of_le (by decide)]

end Sys2Proof.Machine
end

section
/-!
An instruction's meaning through its decoded term (40_executor.md R140, R142): `exec` is the executor on the term, and only PUSH AF
and POP AF fail its checks (44_stack.md R251, R253).
-/

namespace Sys2Proof.Machine

/-- Each arm of the dispatch runs its own row's term. -/
theorem exec_eq_execTerm (i : Instr) (s : State) : exec i s = execTerm i.term s := by
  cases i <;> rfl

theorem execTerm_of_checkTerm {op : Opcode} (h : checkTerm op = none) (s : State) :
    execTerm op s = .next (perform (s.fetched op.length) op) := by
  simp [execTerm, execute, h]

theorem checkTerm_term (i : Instr) (hpush : i.term ≠ .push .af) (hpop : i.term ≠ .pop .af) : checkTerm i.term = none := by
  cases i with
  | pushAF => exact absurd rfl hpush
  | popAF => exact absurd rfl hpop
  | _ => rfl

/-! ## The post-fetch state: PC apart, it is the state before the cycle -/

@[simp] theorem State.reg8_fetched (s : State) (n : Nat) (r : Reg8) : (s.fetched n).reg8 r = s.reg8 r := by cases r <;> rfl

@[simp] theorem State.reg16_fetched (s : State) (n : Nat) (p : Reg16) : (s.fetched n).reg16 p = s.reg16 p := by cases p <;> rfl

@[simp] theorem State.readByte_fetched (s : State) (n : Nat) (x : Word) : (s.fetched n).readByte x = s.readByte x := rfl

theorem State.setReg8_fetched (s : State) (n : Nat) (r : Reg8) (v : Byte) :
    (s.fetched n).setReg8 r v = { s.setReg8 r v with pc := s.pc + BitVec.ofNat 16 n } := by cases r <;> rfl

theorem State.writeByte_fetched (s : State) (n : Nat) (x : Word) (v : Byte) :
    (s.fetched n).writeByte x v = { s.writeByte x v with pc := s.pc + BitVec.ofNat 16 n } := rfl

end Sys2Proof.Machine
end

section
/-!
The loads among byte registers and (HL) (41_load.md R171 to R173): the generic load of R170 on each kind of operand,
and the one byte `01 ddd sss` that encodes it.
-/

namespace Sys2Proof.Machine

/-! ## The generic load -/

theorem checkTerm_of_load {i : Instr} {dst src : Slot} (h : i.term = .load dst src) : checkTerm (.load dst src) = none := by
  have hcheck := checkTerm_term i (by rw [h]; nofun) (by rw [h]; nofun)
  rwa [h] at hcheck

theorem exec_of_load {i : Instr} {dst src : Slot} (h : i.term = .load dst src) (s : State) :
    exec i s = .next (opLoad (s.fetched (Opcode.load dst src).length) dst src) := by
  rw [exec_eq_execTerm, h, execTerm_of_checkTerm (checkTerm_of_load h)]
  rfl

@[simp] theorem effAddr_hl (s : State) : effAddr s (.addrRegister .hl) = some (s.reg16 .hl) := rfl

theorem opLoad_register8_register8 (s : State) (r r' : Reg8) :
    opLoad s (.register8 r) (.register8 r') = s.setReg8 r (s.reg8 r') := by
  unfold opLoad
  rw [readSlot_register8, writeSlot_register8, BitVec.setWidth_setWidth_of_le _ (by decide), BitVec.setWidth_eq]

theorem opLoad_register8_hl (s : State) (r : Reg8) :
    opLoad s (.register8 r) (.addrRegister .hl) = s.setReg8 r (s.readByte (s.reg16 .hl)) := by
  unfold opLoad
  rw [readSlot_of_effAddr (effAddr_hl s), writeSlot_register8, BitVec.setWidth_setWidth_of_le _ (by decide), BitVec.setWidth_eq]

theorem opLoad_hl_register8 (s : State) (r : Reg8) :
    opLoad s (.addrRegister .hl) (.register8 r) = s.writeByte (s.reg16 .hl) (s.reg8 r) := by
  unfold opLoad
  rw [readSlot_register8, writeSlot_of_effAddr (effAddr_hl s), BitVec.setWidth_setWidth_of_le _ (by decide), BitVec.setWidth_eq]

/-! ## The encoding -/

/-- Every byte register but F stands in the operand table of R108, away from (HL)'s place 110. -/
theorem exists_operandOf_eq_register8 {r : Reg8} (h : r ≠ .f) :
    ∃ x : BitVec 3, r.code = some x ∧ x ≠ 0b110 ∧ operandOf x = .register8 r := by
  cases r with
  | f => exact absurd rfl h
  | _ => exact ⟨_, rfl, by decide, rfl⟩

/-- A register operand of an instruction's load stands in the operand table: it is not F, which the checks would refuse (R146). -/
theorem exists_operandOf_of_load {i : Instr} {dst src : Slot} {r : Reg8} (h : i.term = .load dst src)
    (hr : .register8 r ∈ operandsOf (.load dst src)) :
    ∃ x : BitVec 3, r.code = some x ∧ x ≠ 0b110 ∧ operandOf x = .register8 r := by
  obtain ⟨hforbidden, -⟩ := (checkTerm_eq_none_iff _).mp (checkTerm_of_load h)
  have hpass : isForbidden (.register8 r) = false := hforbidden _ hr
  have hne : r ≠ .f := by
    rintro rfl
    cases hpass
  exact exists_operandOf_eq_register8 hne

theorem operandOf_110 : operandOf 0b110#3 = .addrRegister .hl := rfl

theorem encodeLoad_operandOf : ∀ x y : BitVec 3, (x ≠ 0b110 ∨ y ≠ 0b110) →
    encodeLoad (operandOf x) (operandOf y) = some [loadByte x y] := by decide

/-- R99 read from the encoder's side. -/
theorem encode_of_load_operandOf {i : Instr} {x y : BitVec 3} (h : i.term = .load (operandOf x) (operandOf y)) :
    i.encode = [loadByte x y] := by
  have hxy : x ≠ 0b110 ∨ y ≠ 0b110 := by
    by_contra hboth
    obtain ⟨rfl, rfl⟩ : x = 0b110 ∧ y = 0b110 := by simpa only [not_or, not_not] using hboth
    exact i.term_ne_load_indHL_indHL h
  have hencode : i.term.encode = some [loadByte x y] := by
    rw [h]
    exact encodeLoad_operandOf x y hxy
  simp [Instr.encode, hencode]

/-! ## The three families -/

/-- Settles O36: the load of a register slot from a register slot on the post-fetch state, and both slots in the operand table. -/
theorem loadRegisterFromRegister : Obligations.LoadRegisterFromRegister := by
  intro i r r' s hterm
  obtain ⟨x, hx, hx110, hdst⟩ := exists_operandOf_of_load hterm List.mem_cons_self
  obtain ⟨y, hy, hy110, hsrc⟩ := exists_operandOf_of_load hterm (List.mem_cons_of_mem _ List.mem_cons_self)
  refine ⟨?_, x, y, hx, hy, hx110, hy110, encode_of_load_operandOf (by rw [hterm, hdst, hsrc])⟩
  rw [exec_of_load hterm, opLoad_register8_register8, State.reg8_fetched, State.setReg8_fetched]
  rfl

/-- Settles O37: the address is HL of the post-fetch state, which is HL before the cycle and so before the write. -/
theorem loadRegisterFromHl : Obligations.LoadRegisterFromHl := by
  intro i r s hterm
  obtain ⟨x, hx, -, hdst⟩ := exists_operandOf_of_load hterm List.mem_cons_self
  refine ⟨?_, x, hx, encode_of_load_operandOf (by rw [hterm, hdst, operandOf_110])⟩
  rw [exec_of_load hterm, opLoad_register8_hl, State.reg16_fetched, State.readByte_fetched, State.setReg8_fetched]
  rfl

/-- Settles O38: the store of a register at HL on the post-fetch state, with (HL) at place 110 of the operand table. -/
theorem storeRegisterAtHl : Obligations.StoreRegisterAtHl := by
  intro i r s hterm
  obtain ⟨y, hy, -, hsrc⟩ := exists_operandOf_of_load hterm (List.mem_cons_of_mem _ List.mem_cons_self)
  refine ⟨?_, y, hy, encode_of_load_operandOf (by rw [hterm, hsrc, operandOf_110])⟩
  rw [exec_of_load hterm, opLoad_hl_register8, State.reg16_fetched, State.reg8_fetched, State.writeByte_fetched]
  rfl

end Sys2Proof.Machine
end

section
/-!
NOP and a run over zero memory (45_control.md R260): the cycle as a function of what decode answers, the byte 0x00 as a step, and
what every byte of memory is after an image load.
-/

namespace Sys2Proof.Machine

/-! ## The cycle of a running core -/

/-- The fetch window is never empty: PC is inside the address space (30_encoding.md R90, R95). -/
theorem State.fetch_eq_cons (s : State) : s.fetch = s.readByte s.pc :: s.mem.bytesFrom (s.pc.toNat + 1) 2 := by
  have hpc : s.pc.toNat < memSize := s.pc.isLt
  unfold State.fetch
  rw [Memory.bytesFrom, if_pos hpc]
  rfl

/-- R140 and R96 (b): a decoded instruction runs when it ends below 0x10000, and fails with EndOfStream otherwise. -/
theorem step_of_decode_ok {s : State} {i : Instr} {len : Nat} (hrun : s.run = .running) (hdec : decode s.fetch = .ok (i, len)) :
    step s = if s.pc.toNat + len < memSize then exec i s else .next (s.takeFailure .endOfStream) := by
  unfold step
  rw [hrun, hdec]

/-- A one-byte instruction fails at the last address and nowhere else. -/
theorem step_of_primaryEntry_one {s : State} {i : Instr} (hrun : s.run = .running) (hentry : primaryEntry (s.readByte s.pc) = .one i) :
    step s = if s.pc = 0xFFFF then .next { s with run := .faulted ⟨.endOfStream, 0xFFFF⟩ } else exec i s := by
  have hdec : decode s.fetch = .ok (i, 1) := by
    rw [s.fetch_eq_cons]
    exact decode_one hentry _
  rw [step_of_decode_ok hrun hdec]
  by_cases htop : s.pc = 0xFFFF
  · have hend : ¬ s.pc.toNat + 1 < memSize := by
      rw [htop]
      decide
    rw [if_neg hend, if_pos htop, ← htop]
    rfl
  · have hbelow : s.pc.toNat + 1 < memSize := by
      unfold memSize
      bv_omega
    rw [if_pos hbelow, if_neg htop]

/-! ## NOP -/

theorem exec_nop (s : State) : exec .nop s = .next { s with pc := s.pc + 1 } := by
  rw [exec_eq_execTerm, execTerm_of_checkTerm rfl]
  rfl

theorem primaryEntry_0x00 : primaryEntry 0x00 = .one .nop := rfl

/-! ## Memory after an image load -/

/-- R49 and R77: the image from address 0 on, and 0x00 beyond it. -/
theorem State.readByte_launch {r : ResetRegs} {image : List Byte} {s : State} (h : State.launch r image = .ok s) (x : Word) :
    s.readByte x = (image[x.toNat]?).getD 0 := by
  unfold State.launch at h
  split at h
  case isTrue =>
    cases h
    show (Memory.writeBytes [] 0 image).read x.toNat = _
    rw [Memory.read_writeBytes [] 0 image x.toNat x.isLt, if_pos (Nat.zero_le _), Memory.read_nil, Nat.sub_zero]
  case isFalse => cases h

/-- Settles O55: the byte 0x00 is NOP's, of format F1, so its step is NOP's effect except at the last address; and the image's
bytes end at its length. -/
theorem nopOnlyAdvancesPc : Obligations.NopOnlyAdvancesPc := by
  refine ⟨exec_nop, rfl, rfl, decode_one primaryEntry_0x00 [], fun s hrun hzero => ?_, fun r image s x hlaunch hlen => ?_⟩
  · have hentry : primaryEntry (s.readByte s.pc) = .one .nop := by rw [hzero, primaryEntry_0x00]
    rw [step_of_primaryEntry_one hrun hentry, exec_nop]
  · rw [State.readByte_launch hlaunch, List.getElem?_eq_none hlen]
    rfl

end Sys2Proof.Machine
end

section
/-!
The two ways an instruction ends (40_executor.md R140, R142): its term's effect on the post-fetch state, or, for PUSH AF and POP AF
alone, the failure of 44_stack.md R251 and R253.
-/

namespace Sys2Proof.Machine

/-- Every instruction but PUSH AF and POP AF is its term's effect on the post-fetch state. -/
theorem exec_eq_perform {i : Instr} {op : Opcode} (hterm : i.term = op) (hcheck : checkTerm op = none) (s : State) :
    exec i s = .next (perform (s.fetched op.length) op) := by
  rw [exec_eq_execTerm, hterm, execTerm_of_checkTerm hcheck]

/-- An instruction that does not fail the AF check passes them all. -/
theorem checkTerm_of_term_eq {i : Instr} {op : Opcode} (hterm : i.term = op) (hpush : op ≠ .push .af) (hpop : op ≠ .pop .af) :
    checkTerm op = none := by
  subst hterm
  exact checkTerm_term i hpush hpop

theorem exec_pushAF (s : State) : exec .pushAF s = .next (s.takeFailure (.illegalOperand (.register16 .af))) := rfl

theorem exec_popAF (s : State) : exec .popAF s = .next (s.takeFailure (.illegalOperand (.register16 .af))) := rfl

theorem checkTerm_term_eq_none {i : Instr} (hpush : i ≠ .pushAF) (hpop : i ≠ .popAF) : checkTerm i.term = none := by
  cases i with
  | pushAF => exact absurd rfl hpush
  | popAF => exact absurd rfl hpop
  | _ => rfl

/-- What an instruction can do, said once: its effect on the post-fetch state, or the failure of an AF stack form. -/
theorem exec_cases {i : Instr} {s t : State} (h : exec i s = .next t) :
    (i ≠ .pushAF ∧ i ≠ .popAF ∧ checkTerm i.term = none ∧ t = perform (s.fetched i.length) i.term) ∨
      ((i = .pushAF ∨ i = .popAF) ∧ t = s.takeFailure (.illegalOperand (.register16 .af))) := by
  by_cases hpush : i = .pushAF
  · subst hpush
    exact .inr ⟨.inl rfl, Host.Outcome.next.inj (h.symm.trans (exec_pushAF s))⟩
  by_cases hpop : i = .popAF
  · subst hpop
    exact .inr ⟨.inr rfl, Host.Outcome.next.inj (h.symm.trans (exec_popAF s))⟩
  have hcheck := checkTerm_term_eq_none hpush hpop
  rw [exec_eq_perform rfl hcheck] at h
  exact .inl ⟨hpush, hpop, hcheck, (Host.Outcome.next.inj h).symm⟩

/-- An instruction always gives a next state: no arm of the dispatch faults or is refused. -/
theorem exists_exec_eq_next (i : Instr) (s : State) : ∃ t, exec i s = .next t := by
  rw [exec_eq_execTerm]
  obtain ⟨-, h⟩ | ⟨g, -, h⟩ := execTerm_cases (rfl : execTerm i.term s = _)
  · exact ⟨_, h⟩
  · exact ⟨_, h⟩

/-- Settles O2: the executor on the instruction's term, with the two outcomes of execute spelled out. -/
theorem execRunsItsTermFromThePostFetchPc : Obligations.ExecRunsItsTermFromThePostFetchPc := by
  intro i s
  rw [exec_eq_execTerm]
  rfl

end Sys2Proof.Machine
end

section
/-!
F as its two flags and its reserved bits (10_state.md R36 to R38): `flagByte` bit by bit, and the flag setters in its terms.
-/

namespace Sys2Proof

open Machine

/-- The flag setters' form of `flagByte`: bit 7 replaced, then bit 4. -/
theorem flagByte_eq_withCy_withZ (f : Byte) (z cy : Bool) : flagByte f z cy = withCy (withZ f z) cy := by
  have hz : (if z then (0x80 : Byte) else 0) &&& 0xEF = if z then 0x80 else 0 := by cases z <;> rfl
  unfold flagByte withCy withZ
  rw [BitVec.and_or_distrib_right, hz, BitVec.and_assoc]
  rfl

theorem flagByte_getLsbD (f : Byte) (z cy : Bool) {k : Nat} (hk : k < 8) :
    (flagByte f z cy).getLsbD k = if k = 4 then cy else if k = 7 then z else f.getLsbD k := by
  rw [flagByte_eq_withCy_withZ, withCy_getLsbD _ _ hk, withZ_getLsbD _ _ hk]

theorem flagByte_bit7 (f : Byte) (z cy : Bool) : (flagByte f z cy).getLsbD 7 = z := flagByte_getLsbD f z cy (by decide)

theorem flagByte_bit4 (f : Byte) (z cy : Bool) : (flagByte f z cy).getLsbD 4 = cy := flagByte_getLsbD f z cy (by decide)

theorem flagByte_self (f : Byte) : flagByte f (f.getLsbD 7) (f.getLsbD 4) = f := by
  refine BitVec.eq_of_getLsbD_eq fun k hk => ?_
  rw [flagByte_getLsbD _ _ _ hk]
  split
  · simp [*]
  · split <;> simp [*]

/-- Only the reserved bits of the byte below matter. -/
@[simp] theorem flagByte_flagByte (f : Byte) (z cy z' cy' : Bool) :
    flagByte (flagByte f z cy) z' cy' = flagByte f z' cy' := by
  refine BitVec.eq_of_getLsbD_eq fun k hk => ?_
  simp only [flagByte_getLsbD _ _ _ hk]
  split
  · rfl
  · split <;> rfl

theorem withZ_eq_flagByte (f : Byte) (b : Bool) : withZ f b = flagByte f b (f.getLsbD 4) := by
  refine BitVec.eq_of_getLsbD_eq fun k hk => ?_
  rw [flagByte_getLsbD _ _ _ hk, withZ_getLsbD _ _ hk]
  split <;> split <;> simp_all

theorem withCy_eq_flagByte (f : Byte) (b : Bool) : withCy f b = flagByte f (f.getLsbD 7) b := by
  refine BitVec.eq_of_getLsbD_eq fun k hk => ?_
  rw [flagByte_getLsbD _ _ _ hk, withCy_getLsbD _ _ hk]
  split
  · rfl
  · split <;> simp [*]

/-- R38: bits 6, 5, 3:0 are those of the byte below. -/
theorem flagByte_and_reserved (f : Byte) (z cy : Bool) : flagByte f z cy &&& 0x6F = f &&& 0x6F := by
  cases z <;> cases cy <;> simp [flagByte, BitVec.and_or_distrib_right, BitVec.and_assoc]

/-- A mask inside the reserved bits has neither flag's bit. -/
theorem getLsbD_of_and_flags_eq_zero {x : Byte} (hx : x &&& 0x90 = 0) : x.getLsbD 7 = false ∧ x.getLsbD 4 = false := by
  constructor
  · simpa using congrArg (·.getLsbD 7) hx
  · simpa using congrArg (·.getLsbD 4) hx

/-- Flipping reserved bits commutes with the setting of the flags. -/
theorem flagByte_xor_reserved {x : Byte} (hx : x &&& 0x90 = 0) (f : Byte) (z cy : Bool) :
    flagByte (f ^^^ x) z cy = flagByte f z cy ^^^ x := by
  obtain ⟨hx7, hx4⟩ := getLsbD_of_and_flags_eq_zero hx
  refine BitVec.eq_of_getLsbD_eq fun k hk => ?_
  rw [BitVec.getLsbD_xor, flagByte_getLsbD _ _ _ hk, flagByte_getLsbD _ _ _ hk, BitVec.getLsbD_xor]
  split
  case isTrue h4 => rw [h4, hx4, Bool.xor_false]
  case isFalse =>
    split
    case isTrue h7 => rw [h7, hx7, Bool.xor_false]
    case isFalse => rfl

end Sys2Proof
end

section
/-!
How a term meets F (10_state.md R38, R40, R41): which flags it writes and with what, and that with F given otherwise it does the
same to the rest of the state, unless it reads a flag that differs.
-/

namespace Sys2Proof.Machine

/-! ## The flags a term writes -/

/-- What the term writes to Z, if it writes Z (R40). -/
def zWritten (s : State) : Opcode → Option Bool
  | .inc slot => if isWide slot then none else some (isZero8 (inc8 (readSlot8 s slot)))
  | .dec slot => if isWide slot then none else some (isZero8 (dec8 (readSlot8 s slot)))
  | .sub slot | .cp slot => some (isZero8 (sub8 s.a (readSlot8 s slot)))
  | .rla => some false
  | .rl slot => some (isZero8 (rl8 (readSlot8 s slot) s.cy))
  | .complBit n slot => some (!(readSlot8 s slot).getLsbD n.val)
  | .xor slot =>
    match Config.xorFlags with
    | .hw => some (isZero8 (xor8 s.a (readSlot8 s slot)))
    | .none => none
  | _ => none

/-- What the term writes to Cy, if it writes Cy (R41). -/
def cyWritten (s : State) : Opcode → Option Bool
  | .sub slot | .cp slot => some (borrow s.a (readSlot8 s slot))
  | .rla => some (rl8Out s.a)
  | .rl slot => some (rl8Out (readSlot8 s slot))
  | .xor _ =>
    match Config.xorFlags with
    | .hw => some false
    | .none => none
  | _ => none

/-- F with the given flags replaced and all else kept. -/
def replaceFlags (f : Byte) (z cy : Option Bool) : Byte := flagByte f (z.getD (f.getLsbD 7)) (cy.getD (f.getLsbD 4))

@[simp] theorem replaceFlags_none_none (f : Byte) : replaceFlags f none none = f := flagByte_self f

theorem withZ_eq_replaceFlags (f : Byte) (b : Bool) : withZ f b = replaceFlags f (some b) none := withZ_eq_flagByte f b

theorem withCy_withZ_eq_replaceFlags (f : Byte) (z cy : Bool) : withCy (withZ f z) cy = replaceFlags f (some z) (some cy) :=
  (flagByte_eq_withCy_withZ f z cy).symm

theorem withZ_withCy_eq_replaceFlags (f : Byte) (z cy : Bool) : withZ (withCy f cy) z = replaceFlags f (some z) (some cy) := by
  rw [withZ_eq_flagByte, withCy_eq_flagByte, flagByte_flagByte, flagByte_bit4]
  rfl

/-! ## The rest of the state, with F given -/

theorem State.reg8_setF (s : State) (v : Byte) {r : Reg8} (h : r ≠ .f) : (s.setF v).reg8 r = s.reg8 r := by
  cases r with
  | f => exact absurd rfl h
  | _ => rfl

theorem State.reg16_setF (s : State) (v : Byte) {p : Reg16} (h : p ≠ .af) : (s.setF v).reg16 p = s.reg16 p := by
  cases p with
  | af => exact absurd rfl h
  | _ => rfl

@[simp] theorem indAddr_setF (s : State) (v : Byte) (i : IndReg) : indAddr (s.setF v) i = indAddr s i := by cases i <;> rfl

theorem State.setReg8_setF (s : State) (v : Byte) (r : Reg8) (x : Byte) : (s.setF v).setReg8 r x = (s.setReg8 r x).setF v := by
  cases r <;> rfl

theorem State.setReg16_setF (s : State) (v : Byte) (p : Reg16) (x : Word) :
    (s.setF v).setReg16 p x = (s.setReg16 p x).setF v := by
  cases p <;> rfl

theorem ne_f_of_isForbidden {r : Reg8} (h : isForbidden (.register8 r) = false) : r ≠ .f := by
  rintro rfl
  cases h

theorem ne_af_of_isForbidden {p : Reg16} (h : isForbidden (.register16 p) = false) : p ≠ .af := by
  rintro rfl
  cases h

/-- A slot that passes the F and AF check does not read F. -/
theorem readSlot_setF (s : State) (v : Byte) {slot : Slot} (h : isForbidden slot = false) :
    readSlot (s.setF v) slot = readSlot s slot := by
  cases slot with
  | register8 r => exact congrArg (BitVec.setWidth 16) (s.reg8_setF v (ne_f_of_isForbidden h))
  | register16 p => exact s.reg16_setF v (ne_af_of_isForbidden h)
  | addrRegister i => simp only [readSlot, indAddr_setF]; rfl
  | addr8 | addr16 | data8 | data16 => rfl

theorem readSlot8_setF (s : State) (v : Byte) {slot : Slot} (h : isForbidden slot = false) :
    readSlot8 (s.setF v) slot = readSlot8 s slot := congrArg loByte (readSlot_setF s v h)

theorem writeSlot_setF (s : State) (v : Byte) (slot : Slot) (x : Word) :
    writeSlot (s.setF v) slot x = (writeSlot s slot x).setF v := by
  cases slot with
  | register8 r => exact s.setReg8_setF v r _
  | register16 p => exact s.setReg16_setF v p x
  | addrRegister i => simp only [writeSlot, indAddr_setF]; rfl
  | addr8 | addr16 | data8 | data16 => rfl

theorem writeSlot8_setF (s : State) (v : Byte) (slot : Slot) (x : Byte) :
    writeSlot8 (s.setF v) slot x = (writeSlot8 s slot x).setF v := writeSlot_setF s v slot _

theorem isForbidden_of_checkTerm {op : Opcode} (h : checkTerm op = none) {slot : Slot} (hmem : slot ∈ operandsOf op) :
    isForbidden slot = false := by
  obtain ⟨hforbidden, -⟩ := (checkTerm_eq_none_iff op).mp h
  exact hforbidden slot hmem

theorem isImmediate_of_checkTerm {op : Opcode} (h : checkTerm op = none) {slot : Slot} (hmem : slot ∈ destinationsOf op) :
    isImmediate slot = false := by
  obtain ⟨-, himmediate, -⟩ := (checkTerm_eq_none_iff op).mp h
  exact himmediate slot hmem

/-- The key fact about F. With F given as `v`, a term that passes the checks does what it does to the rest of the state, and F becomes
`v` with the flags it writes replaced, as long as `v` has the same value of each flag it reads. -/
theorem perform_setF {op : Opcode} (hcheck : checkTerm op = none) (s : State) (v : Byte)
    (hz : readsZ op = true → v.getLsbD 7 = s.z) (hcy : readsCy op = true → v.getLsbD 4 = s.cy) :
    perform (s.setF v) op = (perform s op).setF (replaceFlags v (zWritten s op) (cyWritten s op)) := by
  have hread {slot : Slot} (h : slot ∈ operandsOf op) := readSlot_setF s v (isForbidden_of_checkTerm hcheck h)
  have hread8 {slot : Slot} (h : slot ∈ operandsOf op) := readSlot8_setF s v (isForbidden_of_checkTerm hcheck h)
  cases op with
  | nop | halt | ret | call _ | jumpRMemOffset _ => simp only [zWritten, cyWritten, replaceFlags_none_none]; rfl
  | jumpRNZMemOffset e | jumpRZMemOffset e =>
    have hz : (s.setF v).z = s.z := hz rfl
    simp only [zWritten, cyWritten, replaceFlags_none_none, perform, opJrIfZ, hz]
    split <;> rfl
  | load dst src =>
    simp only [zWritten, cyWritten, replaceFlags_none_none, perform, opLoad]
    rw [hread (by simp [operandsOf]), writeSlot_setF]
  | inc slot | dec slot =>
    simp only [zWritten, cyWritten, perform, opInc, opDec]
    split
    · rw [hread (by simp [operandsOf]), writeSlot_setF, replaceFlags_none_none]
    · rw [hread8 (by simp [operandsOf]), writeSlot8_setF, ← withZ_eq_replaceFlags]; rfl
  | sub slot | cp slot =>
    simp only [zWritten, cyWritten, perform, opSub, opCp]
    rw [hread8 (by simp [operandsOf]), ← withCy_withZ_eq_replaceFlags]; rfl
  | xor slot =>
    simp only [zWritten, cyWritten, perform, opXor]
    rw [hread8 (by simp [operandsOf])]
    cases Config.xorFlags with
    | hw => rw [← withCy_withZ_eq_replaceFlags]; rfl
    | none => rw [replaceFlags_none_none]; rfl
  | complBit n slot =>
    simp only [zWritten, cyWritten, perform, opComplBit]
    rw [hread8 (by simp [operandsOf]), ← withZ_eq_replaceFlags]; rfl
  | rla =>
    have hcy : (s.setF v).cy = s.cy := hcy rfl
    simp only [zWritten, cyWritten, perform, opRla, hcy]
    rw [← withZ_withCy_eq_replaceFlags]; rfl
  | rl slot =>
    have hcy : (s.setF v).cy = s.cy := hcy rfl
    simp only [zWritten, cyWritten, perform, opRl, hcy]
    rw [hread8 (by simp [operandsOf]), writeSlot8_setF, ← withZ_withCy_eq_replaceFlags]; rfl
  | ldInc r | ldDec r =>
    have hr : (s.setF v).reg8 r = s.reg8 r :=
      s.reg8_setF v (ne_f_of_isForbidden (isForbidden_of_checkTerm hcheck (by simp [operandsOf])))
    simp only [zWritten, cyWritten, replaceFlags_none_none, perform, opLdInc, opLdDec, hr]; rfl
  | push p =>
    have hp : (s.setF v).reg16 p = s.reg16 p :=
      s.reg16_setF v (ne_af_of_isForbidden (isForbidden_of_checkTerm hcheck (by simp [operandsOf])))
    simp only [zWritten, cyWritten, replaceFlags_none_none, perform, opPush, hp]; rfl
  | pop p =>
    simp only [zWritten, cyWritten, replaceFlags_none_none, perform, opPop]
    exact State.setReg16_setF s.dropStack v p s.stackTop

end Sys2Proof.Machine
end

section
/-!
F across an instruction (10_state.md R38, R40, R41): the reserved bits are neither written nor read, a flag is written by its
writers alone and read by its readers alone.
-/

namespace Sys2Proof.Machine

/-- F after a term that passes the checks: the flags it writes, and every other bit as before. -/
theorem perform_f {op : Opcode} (hcheck : checkTerm op = none) (s : State) :
    (perform s op).f = replaceFlags s.f (zWritten s op) (cyWritten s op) :=
  congrArg State.f (perform_setF hcheck s s.f (fun _ => rfl) (fun _ => rfl))

/-- An instruction with F given as `v`, which agrees with F on the flags it reads. -/
theorem exec_setF {i : Instr} (hcheck : checkTerm i.term = none) (s : State) (v : Byte)
    (hz : readsZ i.term = true → v.getLsbD 7 = s.z) (hcy : readsCy i.term = true → v.getLsbD 4 = s.cy) :
    exec i (s.setF v) = .next ((perform (s.fetched i.length) i.term).setF
      (replaceFlags v (zWritten (s.fetched i.length) i.term) (cyWritten (s.fetched i.length) i.term))) := by
  rw [exec_eq_perform rfl hcheck]
  exact congrArg Host.Outcome.next (perform_setF hcheck (s.fetched i.length) v hz hcy)

theorem replaceFlags_bit7 (f : Byte) (z cy : Option Bool) : (replaceFlags f z cy).getLsbD 7 = z.getD (f.getLsbD 7) :=
  flagByte_bit7 f _ _

theorem replaceFlags_bit4 (f : Byte) (z cy : Option Bool) : (replaceFlags f z cy).getLsbD 4 = cy.getD (f.getLsbD 4) :=
  flagByte_bit4 f _ _

/-! ## The writers -/

/-- `zWritten` has a value exactly for the writers of the spec's table. -/
theorem isSome_zWritten {op : Opcode} (hcheck : checkTerm op = none) (s : State) : (zWritten s op).isSome = writesZ op := by
  have himmediate {slot : Slot} (h : slot ∈ destinationsOf op) := isImmediate_of_checkTerm hcheck h
  cases op with
  | inc slot | dec slot =>
    cases slot with
    | data8 | data16 => cases himmediate List.mem_cons_self
    | register8 | register16 | addrRegister | addr8 | addr16 => rfl
  | xor slot =>
    unfold zWritten writesZ
    cases Config.xorFlags <;> rfl
  | _ => rfl

theorem isSome_cyWritten (s : State) (op : Opcode) : (cyWritten s op).isSome = writesCy op := by
  cases op with
  | xor slot =>
    unfold cyWritten writesCy
    cases Config.xorFlags <;> rfl
  | _ => rfl

theorem zWritten_eq_none {op : Opcode} (hcheck : checkTerm op = none) (s : State) (h : writesZ op = false) : zWritten s op = none := by
  rw [← Option.not_isSome_iff_eq_none, isSome_zWritten hcheck, h]
  decide

theorem cyWritten_eq_none {op : Opcode} (s : State) (h : writesCy op = false) : cyWritten s op = none := by
  rw [← Option.not_isSome_iff_eq_none, isSome_cyWritten, h]
  decide

/-- Settles O16: a flag the term does not write is the old one, by what F is after a term; a failure does not touch F. -/
theorem flagFrame : Obligations.FlagFrame := by
  intro i s t hexec
  obtain ⟨-, -, hcheck, rfl⟩ | ⟨-, rfl⟩ := exec_cases hexec
  · unfold State.z State.cy
    rw [perform_f hcheck]
    refine ⟨fun hz => ?_, fun hcy => ?_⟩
    · rw [replaceFlags_bit7, zWritten_eq_none hcheck _ hz]
      rfl
    · rw [replaceFlags_bit4, cyWritten_eq_none _ hcy]
      rfl
  · exact ⟨fun _ => rfl, fun _ => rfl⟩

/-! ## The reserved bits -/

theorem exec_keeps_reserved {i : Instr} {s t : State} (hexec : exec i s = .next t) : t.f &&& 0x6F = s.f &&& 0x6F := by
  obtain ⟨-, -, hcheck, rfl⟩ | ⟨-, rfl⟩ := exec_cases hexec
  · rw [perform_f hcheck]
    exact flagByte_and_reserved _ _ _
  · rfl

theorem step_keeps_reserved {s t : State} (hstep : step s = .next t) : t.f &&& 0x6F = s.f &&& 0x6F := by
  obtain ⟨-, ⟨g, -, rfl⟩ | ⟨i, len, -, ⟨-, rfl⟩ | ⟨-, hexec⟩⟩⟩ := step_cases hstep
  · rfl
  · rfl
  · exact exec_keeps_reserved hexec

/-- Settles O10: one instruction by what F is after a term, a run by induction on its steps. -/
theorem reservedFlagBitsHoldForTheWholeRun : Obligations.ReservedFlagBitsHoldForTheWholeRun := by
  refine ⟨fun i s t => exec_keeps_reserved, fun s t hrun => ?_⟩
  induction hrun with
  | refl => rfl
  | tail _ hlast ih => exact (step_keeps_reserved hlast).trans ih

/-- Settles O11: the flipped F has the same flags, so the term writes the same ones over it, and the flip stays. -/
theorem reservedFlagBitsAreNotRead : Obligations.ReservedFlagBitsAreNotRead := by
  intro i s t x hx hexec
  obtain ⟨hpush, hpop, hcheck, rfl⟩ | ⟨rfl | rfl, rfl⟩ := exec_cases hexec
  · obtain ⟨hx7, hx4⟩ := getLsbD_of_and_flags_eq_zero hx
    have hz : (s.f ^^^ x).getLsbD 7 = s.z := by rw [BitVec.getLsbD_xor, hx7, Bool.xor_false]; rfl
    have hcy : (s.f ^^^ x).getLsbD 4 = s.cy := by rw [BitVec.getLsbD_xor, hx4, Bool.xor_false]; rfl
    refine (exec_setF hcheck s (s.f ^^^ x) (fun _ => hz) (fun _ => hcy)).trans ?_
    rw [perform_f hcheck, replaceFlags, hz, hcy, flagByte_xor_reserved hx]
    rfl
  · rfl
  · rfl

/-! ## The readers -/

/-- A flag that is given before and written over is lost, and one that is not written over stays. -/
theorem replaceFlags_withZ (f : Byte) (b : Bool) (z cy : Option Bool) :
    replaceFlags (withZ f b) z cy = if z.isSome then replaceFlags f z cy else withZ (replaceFlags f z cy) b := by
  simp only [withZ_eq_flagByte, replaceFlags, flagByte_flagByte, flagByte_bit7, flagByte_bit4]
  cases z <;> rfl

theorem replaceFlags_withCy (f : Byte) (b : Bool) (z cy : Option Bool) :
    replaceFlags (withCy f b) z cy = if cy.isSome then replaceFlags f z cy else withCy (replaceFlags f z cy) b := by
  simp only [withCy_eq_flagByte, replaceFlags, flagByte_flagByte, flagByte_bit7, flagByte_bit4]
  cases cy <;> rfl

theorem exec_setZ {i : Instr} {s t : State} (b : Bool) (hreads : readsZ i.term = false) (hexec : exec i s = .next t) :
    exec i (s.setZ b) = .next (if writesZ i.term then t else t.setZ b) := by
  obtain ⟨-, -, hcheck, rfl⟩ | ⟨rfl | rfl, rfl⟩ := exec_cases hexec
  · have hcy : (withZ s.f b).getLsbD 4 = s.cy := withZ_getLsbD s.f b (by decide)
    refine (exec_setF hcheck s (withZ s.f b) (fun h => by rw [hreads] at h; cases h) (fun _ => hcy)).trans ?_
    rw [replaceFlags_withZ, isSome_zWritten hcheck, State.setZ, perform_f hcheck]
    split
    · rw [← State.fetched_f s i.length, ← perform_f hcheck]
      rfl
    · rfl
  · rfl
  · rfl

theorem exec_setCy {i : Instr} {s t : State} (b : Bool) (hreads : readsCy i.term = false) (hexec : exec i s = .next t) :
    exec i (s.setCy b) = .next (if writesCy i.term then t else t.setCy b) := by
  obtain ⟨-, -, hcheck, rfl⟩ | ⟨rfl | rfl, rfl⟩ := exec_cases hexec
  · have hz : (withCy s.f b).getLsbD 7 = s.z := withCy_getLsbD s.f b (by decide)
    refine (exec_setF hcheck s (withCy s.f b) (fun _ => hz) (fun h => by rw [hreads] at h; cases h)).trans ?_
    rw [replaceFlags_withCy, isSome_cyWritten, State.setCy, perform_f hcheck]
    split
    · rw [← State.fetched_f s i.length, ← perform_f hcheck]
      rfl
    · rfl
  · rfl
  · rfl

/-- Settles O12: what a term that does not read the flag does with the flag given. -/
theorem flagsAreReadOnlyByTheirReaders : Obligations.FlagsAreReadOnlyByTheirReaders :=
  ⟨fun _ _ _ b => exec_setZ b, fun _ _ _ b => exec_setCy b⟩

end Sys2Proof.Machine
end

section
/-!
Frames (10_state.md R31, R32, R42, R45; 20_memory.md R70): what a term leaves unchanged of the run state, PC, SP, the byte registers
and memory, and so what an instruction does.
-/

namespace Sys2Proof.Machine

/-! ## The terms that write a slot back, and the conditional jumps -/

theorem exists_perform_inc (s : State) (slot : Slot) : ∃ v f, perform s (.inc slot) = (writeSlot s slot v).setF f := by
  simp only [perform, opInc]
  split
  · exact ⟨_, _, rfl⟩
  · exact ⟨_, _, rfl⟩

theorem exists_perform_dec (s : State) (slot : Slot) : ∃ v f, perform s (.dec slot) = (writeSlot s slot v).setF f := by
  simp only [perform, opDec]
  split
  · exact ⟨_, _, rfl⟩
  · exact ⟨_, _, rfl⟩

theorem exists_perform_rl (s : State) (slot : Slot) : ∃ v f, perform s (.rl slot) = (writeSlot s slot v).setF f := ⟨_, _, rfl⟩

theorem exists_perform_xor (s : State) (slot : Slot) : ∃ v f, perform s (.xor slot) = (s.setA v).setF f := by
  simp only [perform, opXor]
  cases Config.xorFlags with
  | hw => exact ⟨_, _, rfl⟩
  | none => exact ⟨_, _, rfl⟩

theorem opJrIfZ_eq_setPc (s : State) (z : Bool) (e : Byte) :
    opJrIfZ s z e = s.setPc (if s.z = z then relTarget s.pc e else s.pc) := by
  unfold opJrIfZ
  split <;> rfl

theorem perform_jumpRNZMemOffset (s : State) (e : Byte) :
    perform s (.jumpRNZMemOffset e) = s.setPc (if s.z = false then relTarget s.pc e else s.pc) := opJrIfZ_eq_setPc s false e

theorem perform_jumpRZMemOffset (s : State) (e : Byte) :
    perform s (.jumpRZMemOffset e) = s.setPc (if s.z = true then relTarget s.pc e else s.pc) := opJrIfZ_eq_setPc s true e

/-! ## The run state -/

theorem perform_run (s : State) (op : Opcode) : (perform s op).run = if op = .halt then .halted else s.run := by
  cases op with
  | load dst src => exact writeSlot_run s dst _
  | inc slot => obtain ⟨v, f, h⟩ := exists_perform_inc s slot; rw [h]; exact writeSlot_run s slot v
  | dec slot => obtain ⟨v, f, h⟩ := exists_perform_dec s slot; rw [h]; exact writeSlot_run s slot v
  | rl slot => exact writeSlot_run s slot _
  | xor slot => exact State.xorFlags_run _ _ _
  | pop p => exact State.setReg16_run _ _ _
  | jumpRNZMemOffset e => rw [perform_jumpRNZMemOffset]; rfl
  | jumpRZMemOffset e => rw [perform_jumpRZMemOffset]; rfl
  | push p => exact s.push16_run _
  | call target => exact s.push16_run s.pc
  | nop | halt | ret | cp | sub | ldInc | ldDec | rla | complBit | jumpRMemOffset => rfl

theorem term_eq_halt_iff (i : Instr) : i.term = .halt ↔ i = .halt := by
  cases i with
  | halt => exact iff_of_true rfl rfl
  | _ => exact iff_of_false nofun nofun

/-- Settles O13: HALT's term is the only one that writes the run state, and the AF stack forms are the only ones that fail. -/
theorem onlyHaltAndAfStackFormsLeaveRunning : Obligations.OnlyHaltAndAfStackFormsLeaveRunning := by
  intro i s t hexec
  obtain ⟨hpush, hpop, -, rfl⟩ | ⟨rfl | rfl, rfl⟩ := exec_cases hexec
  · rw [perform_run, if_neg (not_or.mpr ⟨hpush, hpop⟩)]
    simp only [term_eq_halt_iff, State.fetched_run]
  · rfl
  · rfl

/-! ## PC -/

theorem perform_pc {op : Opcode} (hcheck : checkTerm op = none) (s : State) (h : setsPc op = false) : (perform s op).pc = s.pc := by
  cases op with
  | load dst src => exact writeSlot_pc s dst _
  | inc slot => obtain ⟨v, f, h⟩ := exists_perform_inc s slot; rw [h]; exact writeSlot_pc s slot v
  | dec slot => obtain ⟨v, f, h⟩ := exists_perform_dec s slot; rw [h]; exact writeSlot_pc s slot v
  | rl slot => exact writeSlot_pc s slot _
  | xor slot => exact State.xorFlags_pc _ _ _
  | pop p => exact State.setReg16_pc _ _ _
  | push p => exact s.push16_pc _
  | ret | call | jumpRMemOffset | jumpRNZMemOffset | jumpRZMemOffset => cases h
  | nop | halt | cp | sub | ldInc | ldDec | rla | complBit => rfl

/-- Settles O18: a term that is no jump, call or return leaves the post-fetch PC, and the AF stack forms are excluded. -/
theorem straightLineInstructionsAdvancePc : Obligations.StraightLineInstructionsAdvancePc := by
  intro i s t hexec hpc
  obtain ⟨-, -, hcheck, rfl⟩ | ⟨rfl | rfl, -⟩ := exec_cases hexec
  · exact perform_pc hcheck _ hpc
  · cases hpc
  · cases hpc

/-! ## SP -/

theorem State.setReg16_sp_of_ne (s : State) {p : Reg16} (v : Word) (h : p ≠ .sp) : (s.setReg16 p v).sp = s.sp := by
  cases p with
  | sp => exact absurd rfl h
  | _ => rfl

theorem writeSlot_sp (s : State) {slot : Slot} (v : Word) (h : slot ≠ .register16 .sp) : (writeSlot s slot v).sp = s.sp := by
  cases slot with
  | register8 r => exact State.setReg8_sp _ _ _
  | register16 p => exact s.setReg16_sp_of_ne v fun hp => h (congrArg _ hp)
  | addrRegister | addr8 | addr16 | data8 | data16 => rfl

/-- RL has no 16-bit shape (R149). -/
theorem ne_register16_of_checkTerm_rl {slot : Slot} (hcheck : checkTerm (.rl slot) = none) (p : Reg16) : slot ≠ .register16 p := by
  rintro rfl
  obtain ⟨-, -, hshape⟩ := (checkTerm_eq_none_iff _).mp hcheck
  cases hshape

theorem perform_sp {op : Opcode} (hcheck : checkTerm op = none) (s : State) (h : writesSp op = false) : (perform s op).sp = s.sp := by
  cases op with
  | load dst src =>
    exact writeSlot_sp s _ (by rintro rfl; cases h)
  | inc slot =>
    have hslot : slot ≠ .register16 .sp := by rintro rfl; cases h
    obtain ⟨v, f, h⟩ := exists_perform_inc s slot
    rw [h]
    exact writeSlot_sp s v hslot
  | dec slot =>
    have hslot : slot ≠ .register16 .sp := by rintro rfl; cases h
    obtain ⟨v, f, h⟩ := exists_perform_dec s slot
    rw [h]
    exact writeSlot_sp s v hslot
  | rl slot => exact writeSlot_sp s _ (ne_register16_of_checkTerm_rl hcheck .sp)
  | push p | pop p =>
    have hp : (p != .af) = false := h
    obtain rfl : p = .af := by simpa using hp
    cases hcheck
  | xor slot => exact State.xorFlags_sp _ _ _
  | jumpRNZMemOffset e => rw [perform_jumpRNZMemOffset]; rfl
  | jumpRZMemOffset e => rw [perform_jumpRZMemOffset]; rfl
  | ret | call => cases h
  | nop | halt | cp | sub | ldInc | ldDec | rla | complBit | jumpRMemOffset => rfl

/-- Settles O15: SP after a term that passes the checks; the AF stack forms take a failure, which leaves it. -/
theorem stackPointerFrame : Obligations.StackPointerFrame := by
  intro i s t hexec hsp
  obtain ⟨-, -, hcheck, rfl⟩ | ⟨-, rfl⟩ := exec_cases hexec
  · exact perform_sp hcheck _ hsp
  · rfl

/-! ## The byte registers -/

@[simp] theorem State.reg8_writeByte (s : State) (addr : Word) (v : Byte) (r : Reg8) : (s.writeByte addr v).reg8 r = s.reg8 r := by
  cases r <;> rfl

@[simp] theorem State.reg8_setPc (s : State) (pc : Word) (r : Reg8) : (s.setPc pc).reg8 r = s.reg8 r := by cases r <;> rfl

@[simp] theorem State.reg8_push16 (s : State) (v : Word) (r : Reg8) : (s.push16 v).reg8 r = s.reg8 r := by
  cases r <;> simp [State.reg8]

theorem State.reg8_setReg8_of_ne (s : State) {r q : Reg8} (v : Byte) (h : q ≠ r) : (s.setReg8 q v).reg8 r = s.reg8 r := by
  rw [State.reg8_setReg8, if_neg fun hr => h hr.1.symm]

theorem State.reg8_setReg16_of_not_half (s : State) {r : Reg8} {p : Reg16} (v : Word) (h : isHalfOf r p = false) :
    (s.setReg16 p v).reg8 r = s.reg8 r := by
  cases p <;> cases r <;> cases h <;> rfl

/-- A slot write leaves each byte register that a load to the slot is not listed to write. -/
theorem writeSlot_reg8 (s : State) {r : Reg8} {slot src : Slot} (v : Word) (h : writesReg8 r (.load slot src) = false) :
    (writeSlot s slot v).reg8 r = s.reg8 r := by
  cases slot with
  | register8 q => exact s.reg8_setReg8_of_ne _ (by simpa [writesReg8] using h)
  | register16 p => exact s.reg8_setReg16_of_not_half v h
  | addrRegister | addr8 | addr16 | data8 | data16 => cases r <;> rfl

theorem State.reg8_setA_setF (s : State) {r : Reg8} (v f : Byte) (hf : r ≠ .f) (ha : r ≠ .a) :
    ((s.setA v).setF f).reg8 r = s.reg8 r := by
  rw [State.reg8_setF _ _ hf]
  exact s.reg8_setReg8_of_ne v ha.symm

theorem perform_reg8 {op : Opcode} (hcheck : checkTerm op = none) (s : State) {r : Reg8} (hf : r ≠ .f)
    (h : writesReg8 r op = false) : (perform s op).reg8 r = s.reg8 r := by
  cases op with
  | load dst src => exact writeSlot_reg8 s _ h
  | inc slot =>
    have hslot : writesReg8 r (.load slot slot) = false := by rw [← h]; cases slot <;> rfl
    obtain ⟨v, f, hinc⟩ := exists_perform_inc s slot
    rw [hinc, State.reg8_setF _ _ hf, writeSlot_reg8 s v hslot]
  | dec slot =>
    have hslot : writesReg8 r (.load slot slot) = false := by rw [← h]; cases slot <;> rfl
    obtain ⟨v, f, hdec⟩ := exists_perform_dec s slot
    rw [hdec, State.reg8_setF _ _ hf, writeSlot_reg8 s v hslot]
  | rl slot =>
    have hslot : writesReg8 r (.load slot slot) = false := by
      rw [← h]
      cases slot with
      | register16 p => exact absurd rfl (ne_register16_of_checkTerm_rl hcheck p)
      | _ => rfl
    obtain ⟨v, f, hrl⟩ := exists_perform_rl s slot
    rw [hrl, State.reg8_setF _ _ hf, writeSlot_reg8 s v hslot]
  | pop p => exact s.dropStack.reg8_setReg16_of_not_half _ h
  | ldInc q | ldDec q => exact (State.reg8_setReg16_of_not_half (p := .hl) _ _ h).trans (s.reg8_writeByte _ _ r)
  | sub slot | rla => exact s.reg8_setA_setF _ _ hf (by simpa [writesReg8] using h)
  | xor slot =>
    obtain ⟨v, f, hxor⟩ := exists_perform_xor s slot
    rw [hxor]
    exact s.reg8_setA_setF v f hf (by simpa [writesReg8] using h)
  | cp | complBit => exact s.reg8_setF _ hf
  | jumpRNZMemOffset e => rw [perform_jumpRNZMemOffset, State.reg8_setPc]
  | jumpRZMemOffset e => rw [perform_jumpRZMemOffset, State.reg8_setPc]
  | push p => exact s.reg8_push16 _ r
  | call target => exact (State.reg8_setPc _ _ _).trans (s.reg8_push16 _ r)
  | nop | halt | ret | jumpRMemOffset => cases r <;> rfl

/-- Settles O14: a byte register after a term that passes the checks; a failure leaves them all. -/
theorem byteRegisterFrame : Obligations.ByteRegisterFrame := by
  intro i s t r hexec hf hr
  obtain ⟨-, -, hcheck, rfl⟩ | ⟨-, rfl⟩ := exec_cases hexec
  · rw [perform_reg8 hcheck _ hf hr, State.reg8_fetched]
  · cases r <;> rfl

/-! ## Memory -/

theorem writeSlot_readByte (s : State) {slot : Slot} (v : Word) {x : Word} (h : x ∉ (effAddr s slot).toList) :
    (writeSlot s slot v).readByte x = s.readByte x := by
  cases haddr : effAddr s slot with
  | none => exact State.readByte_congr (by rw [writeSlot_mem, haddr]) x
  | some addr =>
    rw [writeSlot_of_effAddr haddr]
    exact s.readByte_writeByte_other _ (by simpa [haddr] using h)

theorem State.push16_readByte (s : State) (v : Word) {x : Word} (h : x ∉ [s.sp - 1, s.sp - 2]) :
    (s.push16 v).readByte x = s.readByte x := by
  obtain ⟨hhigh, hlow⟩ : x ≠ s.sp - 1 ∧ x ≠ s.sp - 2 := by simpa using h
  exact (State.readByte_writeByte_other _ _ hlow).trans (State.readByte_writeByte_other _ _ hhigh)

theorem perform_readByte {op : Opcode} (hcheck : checkTerm op = none) (s : State) {x : Word} (h : x ∉ storesTo s op) :
    (perform s op).readByte x = s.readByte x := by
  cases op with
  | load dst src => exact writeSlot_readByte s _ h
  | inc slot =>
    obtain ⟨v, f, hinc⟩ := exists_perform_inc s slot
    rw [hinc]
    exact writeSlot_readByte s v h
  | dec slot =>
    obtain ⟨v, f, hdec⟩ := exists_perform_dec s slot
    rw [hdec]
    exact writeSlot_readByte s v h
  | rl slot => exact writeSlot_readByte s _ h
  | ldInc r | ldDec r => exact s.readByte_writeByte_other _ (List.ne_of_not_mem_cons h)
  | push p =>
    have hp : p ≠ .af := by rintro rfl; cases hcheck
    exact s.push16_readByte _ (by simpa [storesTo, hp] using h)
  | call target => exact s.push16_readByte _ h
  | pop p => exact State.readByte_congr (State.setReg16_mem _ _ _) x
  | xor slot => exact State.readByte_congr (State.xorFlags_mem _ _ _) x
  | jumpRNZMemOffset e => rw [perform_jumpRNZMemOffset]; rfl
  | jumpRZMemOffset e => rw [perform_jumpRZMemOffset]; rfl
  | nop | halt | ret | cp | sub | rla | complBit | jumpRMemOffset => rfl

/-- Settles O17: a byte after a term that passes the checks; a failure leaves memory. -/
theorem memoryFrame : Obligations.MemoryFrame := by
  intro i s t hexec x hx
  obtain ⟨-, -, hcheck, rfl⟩ | ⟨-, rfl⟩ := exec_cases hexec
  · exact perform_readByte hcheck _ hx
  · rfl

end Sys2Proof.Machine
end

section
/-!
The decoder against the encoder (30_encoding.md R94, R97, R117 to R124): decode of an encoding gives the instruction back, and every cell
of the two maps stands at the bytes that encode its instruction.
-/

namespace Sys2Proof

/-! ## From the instruction to its bytes and back -/

theorem decode_word_immediate {b : Byte} {mk : Word → Instr} (h : primaryEntry b = .three mk) (nn : Word) (rest : List Byte) :
    decode (b :: loByte nn :: hiByte nn :: rest) = .ok (mk nn, 3) := by
  rw [decode_three h, joinBytes_hi_lo]

/-- Settles O19: the rows with a word immediate join its two bytes again; every other row computes. -/
theorem decodeOfEncodeIsTheInstruction : Obligations.DecodeOfEncodeIsTheInstruction := by
  intro i rest
  cases i with
  | ldBC_d16 nn | ldDE_d16 nn | ldHL_d16 nn | ldSP_d16 nn | call nn | ldIndA16_A nn | ldA_IndA16 nn =>
    exact decode_word_immediate rfl nn rest
  | _ => rfl

/-- Settles O21: each sample is computed by the decoder. -/
theorem sampleWordsDecode : Obligations.SampleWordsDecode := ⟨rfl, rfl, rfl, rfl, rfl, rfl, rfl, rfl, rfl⟩

/-! ## From the bytes to the instruction and back -/

/-- The cell stands at the byte its instructions' encodings begin with, whatever their immediates. -/
def Entry.EncodesAt (b : Byte) : Entry → Prop
  | .unknown | .extended => True
  | .one i => i.encode = [b]
  | .two mk => ∀ n, (mk n).encode = [b, n]
  | .three mk => ∀ nn, (mk nn).encode = [b, loByte nn, hiByte nn]

/-- The cells stand at consecutive bytes from `16 * row + col` on. -/
def RowEncodesAt (row : Nat) : Nat → List Entry → Prop
  | _, [] => True
  | col, e :: rest => e.EncodesAt (BitVec.ofNat 8 (16 * row + col)) ∧ RowEncodesAt row (col + 1) rest

theorem RowEncodesAt.getD {row col : Nat} {cells : List Entry} (h : RowEncodesAt row col cells) (k : Nat) :
    (cells.getD k .unknown).EncodesAt (BitVec.ofNat 8 (16 * row + (col + k))) := by
  induction cells generalizing col k with
  | nil => trivial
  | cons e rest ih =>
    obtain ⟨hhead, htail⟩ := h
    cases k with
    | zero => exact hhead
    | succ k =>
      rw [show col + (k + 1) = col + 1 + k by omega]
      exact ih htail k

/-- The primary map, row by row. -/
theorem primaryMap_encodesAt (row : Nat) : RowEncodesAt row 0 (primaryMap row) := by
  unfold primaryMap
  split
  all_goals simp only [RowEncodesAt, Entry.EncodesAt, true_and, and_true]
  all_goals and_intros
  all_goals (intros; rfl)

/-- Each cell of the primary map stands at its own byte. -/
theorem primaryEntry_encodesAt (b : Byte) : (primaryEntry b).EncodesAt b := by
  have h := (primaryMap_encodesAt (b.toNat / 16)).getD (b.toNat % 16)
  rwa [Nat.zero_add, Nat.div_add_mod, BitVec.ofNat_toNat, BitVec.setWidth_eq] at h

theorem encode_of_primaryEntry_one {b : Byte} {i : Instr} (h : primaryEntry b = .one i) : i.encode = [b] := by
  have hcell := primaryEntry_encodesAt b
  rwa [h] at hcell

theorem encode_of_primaryEntry_two {b : Byte} {mk : Byte → Instr} (h : primaryEntry b = .two mk) (n : Byte) :
    (mk n).encode = [b, n] := by
  have hcell := primaryEntry_encodesAt b
  rw [h] at hcell
  exact hcell n

theorem encode_of_primaryEntry_three {b : Byte} {mk : Word → Instr} (h : primaryEntry b = .three mk) (l hi : Byte) :
    (mk (joinBytes hi l)).encode = [b, l, hi] := by
  have hcell := primaryEntry_encodesAt b
  rw [h] at hcell
  rw [hcell (joinBytes hi l), loByte_joinBytes, hiByte_joinBytes]

/-- The cell leads to the extended table (R98). -/
def Entry.isExtended : Entry → Bool
  | .extended => true
  | _ => false

theorem isExtended_primaryEntry : ∀ b : Byte, (primaryEntry b).isExtended = (b == 0xCB) := by decide

theorem eq_0xCB_of_primaryEntry_extended {b : Byte} (h : primaryEntry b = .extended) : b = 0xCB := by
  have hb := isExtended_primaryEntry b
  rw [h] at hb
  exact eq_of_beq hb.symm

/-- The extended map, byte by byte. -/
theorem encode_of_mem_extendedEntry : ∀ b1 : Byte, ∀ i ∈ extendedEntry b1, i.encode = [0xCB, b1] := by decide

/-- The bytes an accepted instruction is read from are its encoding, and the answered length counts them. -/
theorem decode_eq_ok_encode {bytes : List Byte} {i : Instr} {len : Nat} (h : decode bytes = .ok (i, len)) :
    bytes.take len = i.encode ∧ len = i.encode.length := by
  obtain ⟨b, rest, rfl, hone | htwo | hthree | hextended⟩ := decode_cases h
  · obtain ⟨he, rfl⟩ := hone
    rw [encode_of_primaryEntry_one he]
    exact ⟨rfl, rfl⟩
  · obtain ⟨mk, n, tail, he, rfl, rfl, rfl⟩ := htwo
    rw [encode_of_primaryEntry_two he]
    exact ⟨rfl, rfl⟩
  · obtain ⟨mk, l, hi, tail, he, rfl, rfl, rfl⟩ := hthree
    rw [encode_of_primaryEntry_three he]
    exact ⟨rfl, rfl⟩
  · obtain ⟨b1, tail, he, rfl, h1, rfl⟩ := hextended
    rw [encode_of_mem_extendedEntry b1 i h1, eq_0xCB_of_primaryEntry_extended he]
    exact ⟨rfl, rfl⟩

/-- The per-instruction family of Laws, for every instruction. -/
theorem encodingLength (i : Instr) : Laws.EncodingLength.Statement i := by
  cases i <;> exact ⟨rfl, Nat.le_of_ble_eq_true rfl, Nat.le_of_ble_eq_true rfl⟩

/-- Settles O20: the formats one by one, each through its cell of the map. -/
theorem decodedBytesAreTheEncoding : Obligations.DecodedBytesAreTheEncoding := by
  intro bytes i len hdec
  obtain ⟨hbytes, hlen⟩ := decode_eq_ok_encode hdec
  obtain ⟨hlength, hmin, hmax⟩ := encodingLength i
  rw [hlength] at hlen
  subst hlen
  exact ⟨rfl, hmin, hmax, hbytes⟩

/-! ## The extended table and the undecoded bytes -/

/-- The byte `00010 sss` of RL (R111, R116). -/
def rlByte (s : BitVec 3) : Byte := 0b00010#5 ++ s

theorem rlByte_toNat (s : BitVec 3) : (rlByte s).toNat = 0x10 + s.toNat := by
  unfold rlByte
  rw [BitVec.toNat_append, ← Nat.shiftLeft_add_eq_or_of_lt s.isLt]
  rfl

theorem exists_eq_rlByte {b : Byte} (hlo : 0x10 ≤ b.toNat) (hhi : b.toNat < 0x18) : ∃ s, b = rlByte s := by
  refine ⟨BitVec.ofNat 3 b.toNat, BitVec.eq_of_toNat_eq ?_⟩
  simp only [rlByte_toNat, BitVec.toNat_ofNat]
  omega

theorem term_extendedEntry_rlByte : ∀ s : BitVec 3, (extendedEntry (rlByte s)).map Instr.term = some (.rl (operandOf s)) := by decide

/-- BIT's second byte is `01 bbb sss`, the form of the load block's byte. -/
theorem term_extendedEntry_loadByte :
    ∀ n s : BitVec 3, (extendedEntry (loadByte n s)).map Instr.term = some (.complBit n.toFin (operandOf s)) := by decide

theorem extendedEntry_eq_none : ∀ b1 : Byte, ¬(0x10 ≤ b1.toNat ∧ b1.toNat < 0x18) → ¬(0x40 ≤ b1.toNat ∧ b1.toNat < 0x80) →
    extendedEntry b1 = none := by decide

/-- Settles O25: a byte of either range is its fields, and its cell of the extended map holds the term of these; elsewhere there
is no cell. -/
theorem extendedTableIsRlAndBit : Obligations.ExtendedTableIsRlAndBit := by
  intro b1 rest
  split_ifs with hrl hbit
  · obtain ⟨s, rfl⟩ := exists_eq_rlByte hrl.1 hrl.2
    obtain ⟨i, hentry, hterm⟩ := Option.map_eq_some_iff.mp (term_extendedEntry_rlByte s)
    have hindex : (rlByte s).toNat % 8 = s.toNat := by rw [rlByte_toNat]; omega
    exact ⟨i, operandOf s, decode_extended_some primaryEntry_0xCB hentry rest,
      by rw [hindex, operandTable_getElem?_toNat], hterm⟩
  · obtain ⟨n, s, rfl⟩ := exists_eq_loadByte hbit.1 hbit.2
    obtain ⟨i, hentry, hterm⟩ := Option.map_eq_some_iff.mp (term_extendedEntry_loadByte n s)
    have hindex : (loadByte n s).toNat % 8 = s.toNat := by rw [loadByte_toNat]; omega
    have hbitNumber : (loadByte n s).toNat / 8 % 8 = n.toNat := by rw [loadByte_toNat]; omega
    exact ⟨i, operandOf s, n.toFin, decode_extended_some primaryEntry_0xCB hentry rest,
      by rw [hindex, operandTable_getElem?_toNat], hbitNumber.symm, hterm⟩
  · exact decode_extended_none primaryEntry_0xCB (extendedEntry_eq_none b1 hrl hbit) rest

/-- The cell is a `-` cell (R117). -/
def Entry.isUnknown : Entry → Bool
  | .unknown => true
  | _ => false

theorem Entry.isUnknown_eq_true {e : Entry} (h : e.isUnknown = true) : e = .unknown := by
  cases e with
  | unknown => rfl
  | _ => cases h

/-- A cell that is neither `-` nor the 0xCB cell starts an instruction, which two more bytes complete. -/
theorem exists_decode_eq_ok {b : Byte} (hknown : (primaryEntry b).isUnknown = false) (hext : b ≠ 0xCB) (x y : Byte)
    (rest : List Byte) : ∃ i len, decode (b :: x :: y :: rest) = .ok (i, len) := by
  cases he : primaryEntry b with
  | unknown => rw [he] at hknown; cases hknown
  | extended => exact absurd (eq_0xCB_of_primaryEntry_extended he) hext
  | one i => exact ⟨i, 1, decode_one he _⟩
  | two mk => exact ⟨mk x, 2, decode_two he x _⟩
  | three mk => exact ⟨mk (joinBytes y x), 3, decode_three he x y _⟩

/-- The 256 bytes in rising order. -/
def allBytes : List Byte := (List.range 256).map (BitVec.ofNat 8)

theorem mem_allBytes (b : Byte) : b ∈ allBytes :=
  List.mem_map.mpr ⟨b.toNat, List.mem_range.mpr b.isLt, by rw [BitVec.ofNat_toNat, BitVec.setWidth_eq]⟩

/-- Settles O26: the listed bytes are the `-` cells of the primary map, all of them. -/
theorem undecodedPrimaryBytesFail : Obligations.UndecodedPrimaryBytesFail := by
  unfold Obligations.UndecodedPrimaryBytesFail
  intro undecoded
  have hlisted : undecoded = allBytes.filter fun b => (primaryEntry b).isUnknown := by decide
  have hmem (b : Byte) : b ∈ undecoded ↔ (primaryEntry b).isUnknown = true := by
    rw [hlisted, List.mem_filter, and_iff_right (mem_allBytes b)]
  refine ⟨fun b hb rest => decode_unknown (Entry.isUnknown_eq_true ((hmem b).mp hb)) rest, fun b x y rest hb hext => ?_⟩
  exact exists_decode_eq_ok (Bool.eq_false_of_not_eq_true fun h => hb ((hmem b).mpr h)) hext x y rest

end Sys2Proof
end

section
/-!
The cycle (40_executor.md R140, R141; 30_encoding.md R95, R96; 70_reset_and_hazards.md R315): what the decoder sees, what a running
core's step is for each answer of the decoder, and that a stopped core has no step.
-/

namespace Sys2Proof.Machine

/-! ## The fetch window -/

theorem Memory.bytesFrom_getElem? (m : Memory) (addr n k : Nat) :
    (m.bytesFrom addr n)[k]? = if k < n ∧ addr + k < memSize then some (m.read (addr + k)) else none := by
  induction n generalizing addr k with
  | zero => rw [if_neg (by omega)]; rfl
  | succ n ih =>
    unfold Memory.bytesFrom
    split
    case isFalse hend => rw [if_neg (by omega)]; rfl
    case isTrue hin =>
      cases k with
      | zero => rw [if_pos ⟨by omega, by omega⟩]; rfl
      | succ k =>
        rw [List.getElem?_cons_succ, ih, show addr + 1 + k = addr + (k + 1) by omega]
        simp only [Nat.add_lt_add_iff_right]

theorem State.fetch_getElem? (s : State) (k : Nat) :
    s.fetch[k]? = if k < 3 ∧ s.pc.toNat + k < memSize then some (s.mem.read (s.pc.toNat + k)) else none :=
  Memory.bytesFrom_getElem? s.mem s.pc.toNat 3 k

/-! ## A running core's step -/

theorem step_of_decode_error {s : State} {g : Failure} (hrun : s.run = .running) (hdec : decode s.fetch = .error g) :
    step s = .next (s.takeFailure g) := by
  unfold step
  rw [hrun, hdec]

/-- Settles O1: the instruction ends below 0x10000, so the cycle is its execution. -/
theorem stepRunsTheDecodedInstruction : Obligations.StepRunsTheDecodedInstruction := by
  intro s i len hrun hdec hend
  rw [step_of_decode_ok hrun hdec, if_pos hend]

/-- Settles O3: the window of three bytes cut at 0x10000, and the two failures of a cycle before execute. -/
theorem fetchAndDecodeFailuresFault : Obligations.FetchAndDecodeFailuresFault := by
  refine ⟨State.fetch_getElem?, fun s g => step_of_decode_error, fun s i len hrun hdec hend => ?_⟩
  rw [step_of_decode_ok hrun hdec, if_neg (Nat.not_lt.mpr hend)]
  rfl

/-! ## Which states have a step -/

theorem step_of_halted {s : State} (hrun : s.run = .halted) : step s = .fault .stepWhenHalted := by
  unfold step
  rw [hrun]

theorem step_of_faulted {s : State} {record : FaultRecord} (hrun : s.run = .faulted record) :
    step s = .fault (.stepWhenFaulted record) := by
  unfold step
  rw [hrun]

theorem exists_step_of_running {s : State} (hrun : s.run = .running) : ∃ t, step s = .next t := by
  cases hdec : decode s.fetch with
  | error g => exact ⟨_, step_of_decode_error hrun hdec⟩
  | ok answer =>
    obtain ⟨i, len⟩ := answer
    rw [step_of_decode_ok hrun hdec]
    split
    · exact exists_exec_eq_next i s
    · exact ⟨_, rfl⟩

theorem running_of_step {s t : State} (h : step s = .next t) : s.run = .running := (step_cases h).1

/-- Settles O5: a running core's cycle always ends in a next state, and the two stopped run states have no step. -/
theorem stepExistsExactlyWhileRunning : Obligations.StepExistsExactlyWhileRunning :=
  fun _ => ⟨⟨exists_step_of_running, fun ⟨_, h⟩ => running_of_step h⟩, step_of_halted, fun _ => step_of_faulted⟩

/-! ## A failing cycle -/

/-- An instruction that leaves a running core faulted has taken a failure, so it has changed the run state alone. -/
theorem eq_takeFailure_of_exec_faulted {i : Instr} {s t : State} {record : FaultRecord} (hrun : s.run = .running)
    (hexec : exec i s = .next t) (hfault : t.run = .faulted record) :
    t = s.takeFailure (.illegalOperand (.register16 .af)) := by
  obtain ⟨-, -, -, rfl⟩ | ⟨-, rfl⟩ := exec_cases hexec
  · rw [perform_run, State.fetched_run, hrun] at hfault
    split at hfault <;> cases hfault
  · rfl

theorem step_faulted_eq_takeFailure {s t : State} {record : FaultRecord} (hstep : step s = .next t)
    (hfault : t.run = .faulted record) : ∃ g, t = s.takeFailure g := by
  obtain ⟨hrun, ⟨g, -, rfl⟩ | ⟨i, len, -, ⟨-, rfl⟩ | ⟨-, hexec⟩⟩⟩ := step_cases hstep
  · exact ⟨g, rfl⟩
  · exact ⟨_, rfl⟩
  · exact ⟨_, eq_takeFailure_of_exec_faulted hrun hexec hfault⟩

/-- Settles O4: every way into `Faulted` is `takeFailure`. -/
theorem failingCycleChangesOnlyTheRunState : Obligations.FailingCycleChangesOnlyTheRunState := by
  intro s t record hstep hfault
  obtain ⟨g, rfl⟩ := step_faulted_eq_takeFailure hstep hfault
  cases hfault
  exact ⟨rfl, rfl⟩

end Sys2Proof.Machine
end

section
/-!
Reset, the invariant and runs (10_state.md R45, R46, R49; 70_reset_and_hazards.md R310, R316): the reset state meets the invariant, every
step keeps it, and a run ends in one way.
-/

namespace Sys2Proof.Machine

/-! ## Reset -/

theorem Memory.wf_nil : Memory.wf [] := ⟨.nil, nofun⟩

/-- A running core meets the invariant as soon as its memory is canonical. -/
theorem inv_of_running {s : State} (hrun : s.run = .running) (hwf : s.mem.wf) : Inv s := by
  refine ⟨hwf, ?_⟩
  unfold RunStateFits
  rw [hrun]
  trivial

theorem imageFits_iff (image : List Byte) : imageFits image = true ↔ image.length ≤ 65536 := decide_eq_true_iff

/-- Settles O6: the launch checks the image's length, then fills the registers from the draw and memory from the image. -/
theorem launchGivesTheResetState : Obligations.LaunchGivesTheResetState := by
  refine ⟨fun r image hfits => ?_, fun r image hlong => ?_⟩
  · have hfits := (imageFits_iff image).mpr hfits
    refine ⟨_, if_pos hfits, rfl, rfl, rfl, rfl, rfl, rfl, rfl, rfl, rfl, rfl, rfl, State.readByte_launch (r := r) (if_pos hfits), ?_⟩
    exact inv_of_running rfl (Memory.writeBytes_keeps_wf Memory.wf_nil 0 image)
  · exact if_neg fun hfits => Nat.not_le_of_lt hlong ((imageFits_iff image).mp hfits)

/-- Settles O7: the launch of the empty image computes to `State.reset`, whose memory is empty. -/
theorem resetMeetsTheInvariant : Obligations.ResetMeetsTheInvariant :=
  ⟨inv_of_running rfl State.reset_mem_wf, rfl, rfl, rfl, fun _ => rfl⟩

/-! ## The invariant -/

/-- R281: every failing branch of the decoder raises one of its three failures. -/
theorem raisedByDecoded_of_decode_error {bytes : List Byte} {g : Failure} (h : decode bytes = .error g) : raisedByDecoded g = true := by
  unfold decode at h
  repeat' split at h
  all_goals cases h
  all_goals rfl

theorem inv_takeFailure {s : State} {g : Failure} (hwf : s.mem.wf) (hraised : raisedByDecoded g = true) : Inv (s.takeFailure g) :=
  ⟨hwf, rfl, hraised⟩

/-- A core that decodes HALT has HALT's byte at PC. -/
theorem readByte_pc_of_decode_halt {s : State} {len : Nat} (hdec : decode s.fetch = .ok (.halt, len)) :
    s.readByte s.pc = 0x76 ∧ len = 1 := by
  obtain ⟨hbytes, rfl⟩ := decode_eq_ok_encode hdec
  rw [s.fetch_eq_cons] at hbytes
  exact ⟨(List.cons.inj hbytes).1, rfl⟩

theorem inv_exec {s t : State} {i : Instr} {len : Nat} (hwf : s.mem.wf) (hrun : s.run = .running)
    (hdec : decode s.fetch = .ok (i, len)) (hend : s.pc.toNat + len < memSize) (hexec : exec i s = .next t) : Inv t := by
  obtain ⟨-, -, -, rfl⟩ | ⟨-, rfl⟩ := exec_cases hexec
  · by_cases hhalt : i = .halt
    · subst hhalt
      obtain ⟨hbyte, rfl⟩ := readByte_pc_of_decode_halt hdec
      refine ⟨hwf, ?_, ?_⟩
      · show s.pc + 1 ≠ 0
        unfold memSize at hend
        bv_omega
      · show s.readByte (s.pc + 1 - 1) = 0x76
        rw [add_sub_cancel_right, hbyte]
    · refine inv_of_running ?_ (perform_keeps_wf _ hwf)
      rw [perform_run, if_neg (mt (term_eq_halt_iff i).mp hhalt), State.fetched_run, hrun]
  · exact inv_takeFailure hwf rfl

/-- Settles O8: a cycle takes a failure decoding can raise, or runs an instruction that was decoded at PC. -/
theorem stepKeepsTheInvariant : Obligations.StepKeepsTheInvariant := by
  rintro s t ⟨hwf, -⟩ hstep
  obtain ⟨hrun, ⟨g, hdec, rfl⟩ | ⟨i, len, hdec, ⟨-, rfl⟩ | ⟨hend, hexec⟩⟩⟩ := step_cases hstep
  · exact inv_takeFailure hwf (raisedByDecoded_of_decode_error hdec)
  · exact inv_takeFailure hwf rfl
  · exact inv_exec hwf hrun hdec hend hexec

/-! ## Runs -/

theorem reaches_head_cases {s t : State} (h : Reaches s t) : t = s ∨ ∃ u, step s = .next u ∧ Reaches u t := by
  induction h with
  | refl => exact .inl rfl
  | tail _ hlast ih =>
    obtain rfl | ⟨u, hstep, hrun⟩ := ih
    · exact .inr ⟨_, hlast, .refl _⟩
    · exact .inr ⟨u, hstep, .tail hrun hlast⟩

theorem eq_of_reaches_of_stopped {s t : State} (hstop : s.run ≠ .running) (h : Reaches s t) : t = s := by
  obtain rfl | ⟨u, hstep, -⟩ := reaches_head_cases h
  · rfl
  · exact absurd (running_of_step hstep) hstop

/-- R320: a run is determined by its first state, so it is on its way to its stopped state wherever it is. -/
theorem reaches_stopped_of_reaches {s t u : State} (hstop : t.run ≠ .running) (ht : Reaches s t) (hu : Reaches s u) :
    Reaches u t := by
  induction hu with
  | refl => exact ht
  | tail _ hlast ih =>
    obtain rfl | ⟨v, hstep, hrun⟩ := reaches_head_cases ih
    · exact absurd (running_of_step hlast) hstop
    · obtain rfl := Host.Outcome.next.inj (hstep.symm.trans hlast)
      exact hrun

theorem reaches_stopped_unique {s t u : State} (ht : Reaches s t) (htstop : t.run ≠ .running) (hu : Reaches s u)
    (hustop : u.run ≠ .running) : t = u :=
  eq_of_reaches_of_stopped hustop (reaches_stopped_of_reaches htstop ht hu)

theorem succeeds_or_fails_or_hangs (s : State) : Succeeds s ∨ Fails s ∨ Hangs s := by
  by_cases hhangs : Hangs s
  · exact .inr (.inr hhangs)
  · obtain ⟨t, hreach, hstop⟩ : ∃ t, Reaches s t ∧ t.run ≠ .running := by simpa [Hangs] using hhangs
    cases hrun : t.run with
    | running => exact absurd hrun hstop
    | halted => exact .inl ⟨t, hreach, hrun⟩
    | faulted record => exact .inr (.inl ⟨t, record, hreach, hrun⟩)

/-- Settles O9: a run that does not stay running reaches a stopped state, and no second one. -/
theorem everyRunEndsInExactlyOneWay : Obligations.EveryRunEndsInExactlyOneWay := by
  refine fun s => ⟨succeeds_or_fails_or_hangs s, ?_, ?_, ?_⟩
  · rintro ⟨⟨t, ht, hhalt⟩, u, record, hu, hfault⟩
    obtain rfl := reaches_stopped_unique ht (by rw [hhalt]; nofun) hu (by rw [hfault]; nofun)
    rw [hhalt] at hfault
    cases hfault
  · rintro ⟨⟨t, ht, hhalt⟩, hhangs⟩
    have hrun := hhangs t ht
    rw [hhalt] at hrun
    cases hrun
  · rintro ⟨⟨t, record, ht, hfault⟩, hhangs⟩
    have hrun := hhangs t ht
    rw [hfault] at hrun
    cases hrun

end Sys2Proof.Machine
end

section
/-!
The canonical form of memory (10_state.md R49): a memory in it is determined by what it reads.
-/

namespace Sys2Proof.Machine

theorem Memory.wf_tail {cell : Host.Cell} {m : Memory} (h : Memory.wf (cell :: m)) : Memory.wf m :=
  ⟨h.1.tail, fun c hc => h.2 c (List.mem_cons_of_mem _ hc)⟩

theorem Memory.read_eq_of_mem {m : Memory} (h : m.wf) {cell : Host.Cell} (hmem : cell ∈ m) : m.read cell.1 = cell.2 := by
  induction m with
  | nil => cases hmem
  | cons c rest ih =>
    obtain ⟨hlt, -⟩ := List.pairwise_cons.mp h.1
    obtain rfl | hmem := List.mem_cons.mp hmem
    · exact if_pos rfl
    · exact (if_neg (hlt cell hmem).ne).trans (ih (Memory.wf_tail h) hmem)

theorem Memory.mem_of_read_ne_zero {m : Memory} {addr : Nat} (h : m.read addr ≠ 0) : (addr, m.read addr) ∈ m := by
  induction m with
  | nil => exact absurd rfl h
  | cons c rest ih =>
    obtain ⟨k, v⟩ := c
    rw [Memory.read] at h ⊢
    split
    case isTrue hk => rw [hk]; exact List.mem_cons_self
    case isFalse hk =>
      rw [if_neg hk] at h
      exact List.mem_cons_of_mem _ (ih h)

/-- A cell of one canonical memory stands in every other memory that reads the same. -/
theorem Memory.mem_of_mem_of_read_eq {m m' : Memory} (hm : m.wf) (hread : ∀ x, x < memSize → m.read x = m'.read x)
    {cell : Host.Cell} (hmem : cell ∈ m) : cell ∈ m' := by
  obtain ⟨hin, hne⟩ := hm.2 cell hmem
  have hbyte : m'.read cell.1 = cell.2 := by rw [← hread _ hin, Memory.read_eq_of_mem hm hmem]
  have hlisted := Memory.mem_of_read_ne_zero (m := m') (addr := cell.1) (by rwa [hbyte])
  rwa [hbyte] at hlisted

/-- Settles O32: two strictly rising lists with the same cells are the same list. -/
theorem canonicalMemoriesAreEqualWhenTheyReadEqual : Obligations.CanonicalMemoriesAreEqualWhenTheyReadEqual := by
  intro m m' hm hm' hread
  have hnodup {l : Memory} (hl : l.wf) : l.Nodup := hl.1.imp fun hlt heq => hlt.ne (congrArg Prod.fst heq)
  have hperm : m.Perm m' := (List.perm_ext_iff_of_nodup (hnodup hm) (hnodup hm')).mpr fun cell =>
    ⟨Memory.mem_of_mem_of_read_eq hm hread, Memory.mem_of_mem_of_read_eq hm' fun x hx => (hread x hx).symm⟩
  exact hperm.eq_of_pairwise (fun _ _ _ _ hlt hgt => absurd hgt hlt.asymm) hm.1 hm'.1

end Sys2Proof.Machine
end

section
/-!
A run that hangs and a store that the next fetch sees (45_control.md R263; 20_memory.md R74; 70_reset_and_hazards.md R316, R322).
-/

namespace Sys2Proof.Machine

/-! ## The jump to itself -/

/-- A running core whose step gives the same state never leaves it. -/
theorem hangs_of_step_self {s : State} (hstep : step s = .next s) : Hangs s := by
  intro t hreach
  have hself : t = s := by
    induction hreach with
    | refl => rfl
    | tail _ hlast ih =>
      subst ih
      exact Host.Outcome.next.inj (hlast.symm.trans hstep)
  rw [hself]
  exact running_of_step hstep

/-- Below the last address PC moves on without wrapping. -/
theorem toNat_add_one {pc : Word} (h : pc.toNat + 1 < memSize) : (pc + 1).toNat = pc.toNat + 1 := by
  unfold memSize at h
  bv_omega

/-- The fetch window of a core that is not at the last address. -/
theorem State.fetch_eq_cons_cons (s : State) (h : s.pc.toNat + 1 < memSize) :
    s.fetch = s.readByte s.pc :: s.readByte (s.pc + 1) :: s.mem.bytesFrom (s.pc.toNat + 2) 1 := by
  have hbyte : s.readByte (s.pc + 1) = s.mem.read (s.pc.toNat + 1) := congrArg s.mem.read (toNat_add_one h)
  rw [s.fetch_eq_cons, Memory.bytesFrom, if_pos h, hbyte]

theorem primaryEntry_0x18 : primaryEntry 0x18 = .two .jr := rfl

theorem exec_jr_0xFE (s : State) : exec (.jr 0xFE) s = .next s := by
  have htarget : relTarget (s.pc + 2) 0xFE = s.pc := by
    unfold relTarget
    rw [show (0xFE : Byte).signExtend 16 = -2 by decide]
    exact add_neg_cancel_right s.pc 2
  rw [exec_eq_perform (op := .jumpRMemOffset 0xFE) rfl rfl]
  exact congrArg (fun pc => Host.Outcome.next (s.setPc pc)) htarget

/-- Settles O59: the bytes decode to JR with displacement -2 from the address after it. -/
theorem jumpToItselfHangs : Obligations.JumpToItselfHangs := by
  intro s hrun hop hdisp hend
  have hdec : decode s.fetch = .ok (.jr 0xFE, 2) := by
    rw [s.fetch_eq_cons_cons (by omega), hop, hdisp]
    exact decode_two primaryEntry_0x18 _ _
  have hstep : step s = .next s := by rw [step_of_decode_ok hrun hdec, if_pos hend, exec_jr_0xFE]
  exact ⟨hstep, hangs_of_step_self hstep⟩

/-! ## A store ahead of PC -/

theorem State.fetch_writeByte_getElem? (s : State) (x : Word) (v : Byte) (k : Nat) :
    (s.writeByte x v).fetch[k]? = if k < 3 ∧ s.pc.toNat + k = x.toNat then some v else s.fetch[k]? := by
  have hx : x.toNat < memSize := x.isLt
  have hread : (s.writeByte x v).mem.read (s.pc.toNat + k) = if s.pc.toNat + k = x.toNat then v else s.mem.read (s.pc.toNat + k) :=
    Memory.read_write s.mem x.toNat v _
  rw [State.fetch_getElem?, State.fetch_getElem?, State.writeByte_pc, hread]
  by_cases hhit : s.pc.toNat + k = x.toNat
  · by_cases hk : k < 3
    · simp [hhit, hk, hx]
    · simp [hk]
  · simp [hhit]

/-- A store before the bytes read leaves them. -/
theorem Memory.bytesFrom_write (m : Memory) {x : Nat} (v : Byte) {addr : Nat} (n : Nat) (h : x < addr) :
    (m.write x v).bytesFrom addr n = m.bytesFrom addr n := by
  induction n generalizing addr with
  | zero => rfl
  | succ n ih => rw [Memory.bytesFrom, Memory.bytesFrom, Memory.read_write, if_neg h.ne', ih (by omega)]

theorem primaryEntry_0x77 : primaryEntry 0x77 = .one .ldIndHL_A := rfl

theorem exec_ldIndHL_A (s : State) :
    exec .ldIndHL_A s = .next { s.writeByte (s.reg16 .hl) s.a with pc := s.pc + 1 } :=
  (storeRegisterAtHl .ldIndHL_A .a s rfl).1

/-- LD (HL),A with HL just past itself: the state that its step gives. -/
def afterStoreAhead (s : State) : State := { s.writeByte (s.pc + 1) s.a with pc := s.pc + 1 }

theorem step_store_ahead {s : State} (hrun : s.run = .running) (hop : s.readByte s.pc = 0x77) (hhl : s.reg16 .hl = s.pc + 1)
    (hend : s.pc.toNat + 1 < memSize) : step s = .next (afterStoreAhead s) := by
  have hentry : primaryEntry (s.readByte s.pc) = .one .ldIndHL_A := by rw [hop, primaryEntry_0x77]
  have hbelow : s.pc ≠ 0xFFFF := by
    unfold memSize at hend
    bv_omega
  rw [step_of_primaryEntry_one hrun hentry, if_neg hbelow, exec_ldIndHL_A, hhl]
  rfl

/-- The next fetch begins with the stored byte. -/
theorem fetch_afterStoreAhead (s : State) (hend : s.pc.toNat + 1 < memSize) :
    (afterStoreAhead s).fetch = s.a :: s.mem.bytesFrom (s.pc.toNat + 2) 2 := by
  have hbyte : (afterStoreAhead s).readByte (s.pc + 1) = s.a := State.readByte_writeByte_same s (s.pc + 1) s.a
  have hrest : (afterStoreAhead s).mem.bytesFrom (s.pc.toNat + 2) 2 = s.mem.bytesFrom (s.pc.toNat + 2) 2 :=
    Memory.bytesFrom_write s.mem s.a 2 (by rw [toNat_add_one hend]; exact Nat.lt_add_one _)
  rw [State.fetch_eq_cons]
  show (afterStoreAhead s).readByte (s.pc + 1) :: (afterStoreAhead s).mem.bytesFrom ((s.pc + 1).toNat + 1) 2 = _
  rw [hbyte, toNat_add_one hend, hrest]

theorem exec_halt (s : State) : exec .halt s = .next { s with run := .halted, pc := s.pc + 1 } := by
  rw [exec_eq_perform (op := .halt) rfl rfl]
  rfl

/-- Settles O60: the byte write against the fetch window place by place; and the step after the store decodes the stored byte. -/
theorem nextFetchSeesTheStore : Obligations.NextFetchSeesTheStore := by
  refine ⟨State.fetch_writeByte_getElem?, fun s hrun hop hhl hend => ?_⟩
  have hstep := step_store_ahead hrun hop hhl hend
  have hfetch := fetch_afterStoreAhead s hend
  have hrun' : (afterStoreAhead s).run = .running := hrun
  have hnext : (afterStoreAhead s).pc.toNat = s.pc.toNat + 1 := toNat_add_one hend
  refine ⟨afterStoreAhead s, hstep, rfl, hfetch, fun i len hdec => ?_, fun g hdec => ?_, fun hhalt hend2 => ?_⟩
  · rw [← hfetch] at hdec
    rw [step_of_decode_ok hrun' hdec, hnext]
    rfl
  · rw [← hfetch] at hdec
    exact step_of_decode_error hrun' hdec
  · have hdec : decode (afterStoreAhead s).fetch = .ok (.halt, 1) := by
      rw [hfetch, hhalt]
      rfl
    have hlast : step (afterStoreAhead s) = .next { afterStoreAhead s with run := .halted, pc := s.pc + 1 + 1 } := by
      rw [step_of_decode_ok hrun' hdec, hnext, if_pos hend2, exec_halt]
      rfl
    exact ⟨_, hlast, rfl, add_assoc s.pc 1 1, _, .tail (.tail (.refl s) hstep) hlast, rfl⟩

end Sys2Proof.Machine
end

section
/-!
The executor's checks as the table of admitted shapes (40_executor.md R146 to R149, R159), and the terms outside the encodings (R187).
-/

namespace Sys2Proof.Machine

/-! ## The admitted shapes -/

/-- The destinations of R159: no F, no AF and no immediate. -/
theorem isDestination_iff (slot : Slot) :
    (slot.isR8 || slot.isP16 || slot.isMem) = true ↔ isForbidden slot = false ∧ isImmediate slot = false := by
  cases slot with
  | register8 r => cases r <;> decide
  | register16 p => cases p <;> decide
  | addrRegister | addr8 | addr16 => exact iff_of_true rfl ⟨rfl, rfl⟩
  | data8 | data16 => exact iff_of_false nofun nofun

/-- The sources of R159: all but F and AF. -/
theorem isSource_iff (slot : Slot) :
    (slot.isR8 || slot.isP16 || slot.isMem || slot.isImm8 || slot.isImm16) = true ↔ isForbidden slot = false := by
  cases slot with
  | register8 r => cases r <;> decide
  | register16 p => cases p <;> decide
  | addrRegister | addr8 | addr16 | data8 | data16 => exact iff_of_true rfl rfl

theorem checkTerm_load_eq_none_iff (dst src : Slot) : checkTerm (.load dst src) = none ↔ Opcode.admitted (.load dst src) = true := by
  rw [checkTerm_eq_none_iff, Opcode.admitted, Bool.and_eq_true, isDestination_iff, isSource_iff]
  simp only [operandsOf, destinationsOf, List.forall_mem_cons]
  exact ⟨fun ⟨⟨hdst, hsrc, _⟩, ⟨himm, _⟩, _⟩ => ⟨⟨hdst, himm⟩, hsrc⟩,
    fun ⟨⟨hdst, himm⟩, hsrc⟩ => ⟨⟨hdst, hsrc, nofun⟩, ⟨himm, nofun⟩, rfl⟩⟩

/-- R148 against R159. The load is by its two slots; a term of one operand computes once the operand's kind is known. -/
theorem isNone_checkTerm (op : Opcode) : (checkTerm op).isNone = op.admitted := by
  cases op with
  | load dst src => rw [Bool.eq_iff_iff, Option.isNone_iff_eq_none, checkTerm_load_eq_none_iff]
  | inc slot | dec slot | cp slot | sub slot | xor slot | rl slot | complBit _ slot =>
    cases slot with
    | register8 r => cases r <;> rfl
    | register16 p => cases p <;> rfl
    | addrRegister | addr8 | addr16 | data8 | data16 => rfl
  | ldInc r | ldDec r => cases r <;> rfl
  | push p | pop p => cases p <;> rfl
  | nop | halt | ret | rla | call | jumpRMemOffset | jumpRNZMemOffset | jumpRZMemOffset => rfl

theorem checkTerm_eq_none_iff_admitted (op : Opcode) : checkTerm op = none ↔ op.admitted = true := by
  rw [← isNone_checkTerm, Option.isNone_iff_eq_none]

theorem execute_of_checkTerm_some {op : Opcode} {g : Failure} (h : checkTerm op = some g) (t : State) : execute op t = .error g := by
  simp [execute, h]

/-- Settles O34: the checks pass exactly for the admitted shapes, and execute follows the checks. -/
theorem checksAdmitExactlyTheAdmittedShapes : Obligations.ChecksAdmitExactlyTheAdmittedShapes := by
  intro op
  refine ⟨checkTerm_eq_none_iff_admitted op, fun hadmitted t => ?_, fun hnot => ?_⟩
  · exact (execute_eq_ok_iff op t _).mpr ⟨(checkTerm_eq_none_iff_admitted op).mpr hadmitted, rfl⟩
  · cases hcheck : checkTerm op with
    | none =>
      rw [(checkTerm_eq_none_iff_admitted op).mp hcheck] at hnot
      cases hnot
    | some g => exact ⟨g, rfl, execute_of_checkTerm_some hcheck⟩

/-! ## The failures, check by check -/

theorem isForbidden_eq_false {slot : Slot} (hf : slot ≠ .register8 .f) (haf : slot ≠ .register16 .af) : isForbidden slot = false := by
  cases slot with
  | register8 r => cases r with
    | f => exact absurd rfl hf
    | _ => rfl
  | register16 p => cases p with
    | af => exact absurd rfl haf
    | _ => rfl
  | addrRegister | addr8 | addr16 | data8 | data16 => rfl

/-- R146: the first operand that is F or AF is refused, before any other check. -/
theorem execute_of_forbidden {op : Opcode} {slot : Slot} (h : (operandsOf op).find? isForbidden = some slot) (t : State) :
    execute op t = .error (.illegalOperand slot) :=
  execute_of_checkTerm_some (by simp [checkTerm, h]) t

/-- R147 (b): then the first immediate destination. -/
theorem execute_of_immediate_destination {op : Opcode} {slot : Slot} (hoperands : (operandsOf op).find? isForbidden = none)
    (h : (destinationsOf op).find? isImmediate = some slot) (t : State) : execute op t = .error (.illegalOperand slot) :=
  execute_of_checkTerm_some (by simp [checkTerm, hoperands, h]) t

/-- R149: then a shape without a rule. -/
theorem execute_of_no_rule {op : Opcode} (hoperands : (operandsOf op).find? isForbidden = none)
    (hdestinations : (destinationsOf op).find? isImmediate = none) (h : shapeHasRule op = false) (t : State) :
    execute op t = .error (.unimplementedOpcode op) :=
  execute_of_checkTerm_some (by simp [checkTerm, hoperands, hdestinations, h]) t

theorem isForbidden_of_bad {bad : Slot} (h : bad = .register8 .f ∨ bad = .register16 .af) : isForbidden bad = true := by
  obtain rfl | rfl := h
  · rfl
  · rfl

theorem execute_forbidden_operand {op : Opcode} {bad : Slot} (hbad : isForbidden bad = true) {rest : List Slot}
    (h : operandsOf op = bad :: rest) (t : State) : execute op t = .error (.illegalOperand bad) :=
  execute_of_forbidden (by rw [h, List.find?_cons_of_pos hbad]) t

theorem execute_load_forbidden_source {slot bad : Slot} (hslot : isForbidden slot = false) (hbad : isForbidden bad = true)
    (t : State) : execute (.load slot bad) t = .error (.illegalOperand bad) :=
  execute_of_forbidden (by simp [operandsOf, hslot, hbad]) t

/-- An immediate is no F and no AF, and a destination of none of the terms. -/
theorem isImmediate_of_data {imm : Slot} (h : (∃ n, imm = .data8 n) ∨ ∃ n, imm = .data16 n) :
    isForbidden imm = false ∧ isImmediate imm = true ∧ ∀ n, shapeHasRule (.complBit n imm) = false := by
  obtain ⟨n, rfl⟩ | ⟨n, rfl⟩ := h
  · exact ⟨rfl, rfl, fun _ => rfl⟩
  · exact ⟨rfl, rfl, fun _ => rfl⟩

theorem execute_immediate_destination {op : Opcode} {imm : Slot} (himm : isImmediate imm = true) (hforbidden : isForbidden imm = false)
    (hoperands : operandsOf op = [imm]) (hdestinations : destinationsOf op = [imm]) (t : State) :
    execute op t = .error (.illegalOperand imm) :=
  execute_of_immediate_destination (by simp [hoperands, hforbidden]) (by simp [hdestinations, himm]) t

theorem execute_operand_without_rule {op : Opcode} {slot : Slot} (hforbidden : isForbidden slot = false)
    (hoperands : operandsOf op = [slot]) (hdestinations : (destinationsOf op).find? isImmediate = none)
    (h : shapeHasRule op = false) (t : State) : execute op t = .error (.unimplementedOpcode op) :=
  execute_of_no_rule (by simp [hoperands, hforbidden]) hdestinations h t

/-- A 16-bit operand of an 8-bit operation passes the F and AF check. -/
theorem isForbidden_of_wide {wide : Slot} (h : (∃ p, p ≠ .af ∧ wide = .register16 p) ∨ ∃ n, wide = .data16 n) :
    isForbidden wide = false ∧ shapeHasRule (.sub wide) = false ∧ shapeHasRule (.cp wide) = false ∧
      shapeHasRule (.xor wide) = false := by
  obtain ⟨p, hp, rfl⟩ | ⟨n, rfl⟩ := h
  · exact ⟨isForbidden_eq_false nofun fun heq => hp (Slot.register16.inj heq), rfl, rfl, rfl⟩
  · exact ⟨rfl, rfl, rfl, rfl⟩

/-! ## The loads no encoding produces -/

theorem execute_load_register8_register16 (t : State) :
    execute (.load (.register8 .a) (.register16 .bc)) t = .ok { t with a := t.c } := by
  refine (execute_eq_ok_iff _ t _).mpr ⟨rfl, ?_⟩
  show t.setA (loByte (joinBytes t.b t.c)) = _
  rw [loByte_joinBytes]
  rfl

theorem hiByte_setWidth (v : Byte) : hiByte (v.setWidth 16) = 0 := by
  apply BitVec.eq_of_toNat_eq
  have := v.isLt
  simp
  omega

theorem execute_load_register16_register8 (t : State) :
    execute (.load (.register16 .de) (.register8 .a)) t = .ok { t with d := 0, e := t.a } := by
  refine (execute_eq_ok_iff _ t _).mpr ⟨rfl, ?_⟩
  show (t.setD (hiByte (t.a.setWidth 16))).setE (loByte (t.a.setWidth 16)) = _
  rw [hiByte_setWidth, loByte_setWidth]
  rfl

theorem execute_load_hl_data16 (t : State) :
    execute (.load (.addrRegister .hl) (.data16 0x1234)) t = .ok (t.writeByte (t.reg16 .hl) 0x34) :=
  (execute_eq_ok_iff _ t _).mpr ⟨rfl, congrArg (t.writeByte (t.reg16 .hl)) (by decide : loByte 0x1234 = 0x34)⟩

theorem execute_load_hl_hl (t : State) :
    execute (.load (.addrRegister .hl) (.addrRegister .hl)) t = .ok (t.writeByte (t.reg16 .hl) (t.readByte (t.reg16 .hl))) := by
  refine (execute_eq_ok_iff _ t _).mpr ⟨rfl, ?_⟩
  show t.writeByte (t.reg16 .hl) (loByte ((t.readByte (t.reg16 .hl)).setWidth 16)) = _
  rw [loByte_setWidth]

/-- Settles O35: each clause by the first check that the term fails, and the loads by their two slots. -/
theorem termsOutsideTheEncodings : Obligations.TermsOutsideTheEncodings := by
  refine ⟨fun t bad slot hbad => ?_, fun t => ?_, fun t imm slot himm hf haf => ?_, fun t wide hwide => ?_, fun t p hp => ?_, fun t => ?_⟩
  · have hbad := isForbidden_of_bad hbad
    have hfails {op : Opcode} {rest : List Slot} (h : operandsOf op = bad :: rest) := execute_forbidden_operand hbad h t
    exact ⟨hfails rfl, fun hf haf => execute_load_forbidden_source (isForbidden_eq_false hf haf) hbad t,
      hfails rfl, hfails rfl, hfails rfl, hfails rfl, hfails rfl, hfails rfl, fun _ => hfails rfl⟩
  · exact ⟨execute_of_forbidden rfl t, execute_of_forbidden rfl t, execute_of_no_rule rfl rfl rfl t, execute_of_no_rule rfl rfl rfl t⟩
  · obtain ⟨hforbidden, himm, hshape⟩ := isImmediate_of_data himm
    have hslot := isForbidden_eq_false hf haf
    have hfails {op : Opcode} (hops : operandsOf op = [imm]) (hdsts : destinationsOf op = [imm]) :=
      execute_immediate_destination himm hforbidden hops hdsts t
    exact ⟨execute_of_immediate_destination (by simp [operandsOf, hforbidden, hslot]) (by simp [destinationsOf, himm]) t,
      hfails rfl rfl, hfails rfl rfl, hfails rfl rfl,
      fun n => execute_operand_without_rule hforbidden rfl rfl (hshape n) t⟩
  · obtain ⟨hforbidden, hsub, hcp, hxor⟩ := isForbidden_of_wide hwide
    exact ⟨execute_operand_without_rule hforbidden rfl rfl hsub t, execute_operand_without_rule hforbidden rfl rfl hcp t,
      execute_operand_without_rule hforbidden rfl rfl hxor t⟩
  · have hforbidden : isForbidden (.register16 p) = false := isForbidden_eq_false nofun fun h => hp (Slot.register16.inj h)
    exact ⟨execute_operand_without_rule hforbidden rfl rfl rfl t, fun n => execute_operand_without_rule hforbidden rfl rfl rfl t⟩
  · exact ⟨execute_load_register8_register16 t, execute_load_register16_register8 t, execute_load_hl_data16 t, execute_load_hl_hl t⟩

end Sys2Proof.Machine
end

section
/-!
Registers, byte operands and flag updates as whole states (10_state.md R31 to R37; 40_executor.md R144, R150 to R158): the rules by which
an instruction's effect is read off its term.
-/

namespace Sys2Proof.Machine

/-! ## Registers -/

theorem State.reg16_setReg16_same (s : State) {p : Reg16} (v : Word) (h : p ≠ .af) : (s.setReg16 p v).reg16 p = v := by
  cases p with
  | af => exact absurd rfl h
  | bc | de | hl => exact joinBytes_hi_lo v
  | sp => rfl

theorem State.reg8_setReg8_same (s : State) {r : Reg8} (v : Byte) (h : r ≠ .f) : (s.setReg8 r v).reg8 r = v := by
  rw [State.reg8_setReg8, if_pos ⟨rfl, h⟩]

/-- Settles O29: a pair is written half by half and joined again, and each view is the join of its two registers. -/
theorem pairWritesReadBack : Obligations.PairWritesReadBack := by
  refine ⟨fun s p v => s.reg16_setReg16_same v, fun s v => ?_, fun s x => ⟨?_, ?_, fun r hr => ⟨?_, fun q hq => ?_⟩, ?_⟩⟩
  · exact ⟨hiByte v, loByte v, hiByte_toNat v, loByte_toNat v, rfl, rfl, rfl, rfl⟩
  · exact ⟨rfl, rfl, rfl, rfl, rfl, rfl, rfl⟩
  · exact ⟨rfl, rfl, rfl, rfl, rfl, rfl, rfl⟩
  · exact s.reg8_setReg8_same x hr
  · exact s.reg8_setReg8_of_ne x hq.symm
  · exact ⟨joinBytes_toNat _ _, joinBytes_toNat _ _, joinBytes_toNat _ _, joinBytes_toNat _ _, joinBytes_toNat _ _,
      joinBytes_toNat _ _, joinBytes_toNat _ _⟩

theorem State.setReg16_fetched (s : State) (n : Nat) (p : Reg16) (v : Word) :
    (s.fetched n).setReg16 p v = { s.setReg16 p v with pc := s.pc + BitVec.ofNat 16 n } := by cases p <;> rfl

/-! ## Byte operands -/

@[simp] theorem readSlot8_register8 (s : State) (r : Reg8) : readSlot8 s (.register8 r) = s.reg8 r := loByte_setWidth _

@[simp] theorem readSlot8_data8 (s : State) (n : Byte) : readSlot8 s (.data8 n) = n := loByte_setWidth n

theorem readSlot8_of_effAddr {s : State} {slot : Slot} {x : Word} (h : effAddr s slot = some x) : readSlot8 s slot = s.readByte x := by
  rw [readSlot8, readSlot_of_effAddr h, loByte_setWidth]

@[simp] theorem writeSlot8_register8 (s : State) (r : Reg8) (v : Byte) : writeSlot8 s (.register8 r) v = s.setReg8 r v :=
  congrArg (s.setReg8 r) (loByte_setWidth v)

theorem writeSlot8_of_effAddr {s : State} {slot : Slot} {x : Word} (h : effAddr s slot = some x) (v : Byte) :
    writeSlot8 s slot v = s.writeByte x v := by
  rw [writeSlot8, writeSlot_of_effAddr h, ← loByte_eq_setWidth, loByte_setWidth]

@[simp] theorem readSlot8_hl (s : State) : readSlot8 s (.addrRegister .hl) = s.readByte (s.reg16 .hl) := readSlot8_of_effAddr (effAddr_hl s)

@[simp] theorem writeSlot8_hl (s : State) (v : Byte) : writeSlot8 s (.addrRegister .hl) v = s.writeByte (s.reg16 .hl) v :=
  writeSlot8_of_effAddr (effAddr_hl s) v

/-! ## Flag updates -/

theorem State.setZ_eq_flagByte (s : State) (b : Bool) : s.setZ b = { s with f := flagByte s.f b s.cy } :=
  congrArg s.setF (withZ_eq_flagByte s.f b)

theorem State.subFlags_eq_flagByte (s : State) (a v : Byte) :
    s.subFlags a v = { s with f := flagByte s.f (a - v == 0) (decide (a.toNat < v.toNat)) } :=
  congrArg s.setF (flagByte_eq_withCy_withZ s.f _ _).symm

/-- Z and Cy set in either order. -/
theorem State.setZ_setCy_eq_flagByte (s : State) (z cy : Bool) : (s.setCy cy).setZ z = { s with f := flagByte s.f z cy } :=
  congrArg s.setF (withZ_withCy_eq_replaceFlags s.f z cy)

theorem State.xorFlags_hw (s : State) (res : Byte) : s.xorFlags .hw res = { s with f := flagByte s.f (res == 0) false } :=
  congrArg s.setF (flagByte_eq_withCy_withZ s.f _ _).symm

/-- Z after a subtraction says that the operands are equal. -/
theorem sub_beq_zero (a v : Byte) : (a - v == 0) = (a == v) := by
  rw [Bool.eq_iff_iff, beq_iff_eq, beq_iff_eq, sub_eq_zero]

/-! ## The operations -/

@[simp] theorem writeSlot8_f (s : State) (slot : Slot) (v : Byte) : (writeSlot8 s slot v).f = s.f := writeSlot_f s slot _

@[simp] theorem writeSlot8_cy (s : State) (slot : Slot) (v : Byte) : (writeSlot8 s slot v).cy = s.cy :=
  congrArg (·.getLsbD 4) (writeSlot8_f s slot v)

theorem opInc_byte {slot : Slot} (h : isWide slot = false) (s : State) :
    opInc s slot = { writeSlot8 s slot (readSlot8 s slot + 1) with f := flagByte s.f (readSlot8 s slot + 1 == 0) s.cy } := by
  unfold opInc
  rw [h, if_neg Bool.false_ne_true, State.setZ_eq_flagByte, writeSlot8_f, writeSlot8_cy]
  rfl

theorem opDec_byte {slot : Slot} (h : isWide slot = false) (s : State) :
    opDec s slot = { writeSlot8 s slot (readSlot8 s slot - 1) with f := flagByte s.f (readSlot8 s slot - 1 == 0) s.cy } := by
  unfold opDec
  rw [h, if_neg Bool.false_ne_true, State.setZ_eq_flagByte, writeSlot8_f, writeSlot8_cy]
  rfl

theorem opInc_register16 (s : State) (p : Reg16) : opInc s (.register16 p) = s.setReg16 p (s.reg16 p + 1) := rfl

theorem opDec_register16 (s : State) (p : Reg16) : opDec s (.register16 p) = s.setReg16 p (s.reg16 p - 1) := rfl

theorem opSub_eq (s : State) (slot : Slot) :
    opSub s slot = { s with
      a := s.a - readSlot8 s slot
      f := flagByte s.f (s.a - readSlot8 s slot == 0) (decide (s.a.toNat < (readSlot8 s slot).toNat)) } :=
  State.subFlags_eq_flagByte _ _ _

theorem opCp_eq (s : State) (slot : Slot) :
    opCp s slot = { s with f := flagByte s.f (s.a == readSlot8 s slot) (decide (s.a.toNat < (readSlot8 s slot).toNat)) } := by
  unfold opCp
  rw [State.subFlags_eq_flagByte, sub_beq_zero]

theorem opXor_eq (mode : XorFlags) (s : State) (slot : Slot) :
    opXor mode s slot = State.xorFlags { s with a := s.a ^^^ readSlot8 s slot } mode (s.a ^^^ readSlot8 s slot) := rfl

theorem opRla_eq (s : State) :
    opRla s = { s with a := rl8 s.a s.cy, f := flagByte s.f false (s.a.getLsbD 7) } :=
  State.setZ_setCy_eq_flagByte (s.setA (rl8 s.a s.cy)) false (s.a.getLsbD 7)

theorem opRl_eq (s : State) (slot : Slot) :
    opRl s slot = { writeSlot8 s slot (rl8 (readSlot8 s slot) s.cy) with
      f := flagByte s.f (rl8 (readSlot8 s slot) s.cy == 0) ((readSlot8 s slot).getLsbD 7) } := by
  unfold opRl
  rw [State.setZ_setCy_eq_flagByte, writeSlot8_f]
  rfl

theorem opComplBit_eq (s : State) (n : Fin 8) (slot : Slot) :
    opComplBit s n slot = { s with f := flagByte s.f (!(readSlot8 s slot).getLsbD n.val) s.cy } :=
  State.setZ_eq_flagByte s _

end Sys2Proof.Machine
end

section
/-!
The load family's rows with an immediate, an absolute address, a pair's address or a step of HL (41_load.md R174 to R186).
-/

namespace Sys2Proof.Machine

/-! ## Byte immediates -/

theorem opLoad_register8_data8 (s : State) (r : Reg8) (n : Byte) : opLoad s (.register8 r) (.data8 n) = s.setReg8 r n :=
  congrArg (s.setReg8 r) (loByte_setWidth n)

theorem opLoad_hl_data8 (s : State) (n : Byte) : opLoad s (.addrRegister .hl) (.data8 n) = s.writeByte (s.reg16 .hl) n :=
  congrArg (s.writeByte (s.reg16 .hl)) (loByte_setWidth n)

/-- R112: LD r,d8 of a row is `00 ddd 110`, then the immediate. -/
theorem encode_of_load_register8_data8 {i : Instr} {r : Reg8} {n : Byte} {x : BitVec 3} (h : i.term = .load (.register8 r) (.data8 n))
    (hx : r.code = some x) : i.encode = [0b00#2 ++ x ++ 0b110#3, n] := by
  have hencode : i.term.encode = some [0b00#2 ++ x ++ 0b110#3, n] := by
    rw [h]
    show (r.code.map fun x => [0b00#2 ++ x ++ 0b110#3, n]) = _
    rw [hx]
    rfl
  rw [Instr.encode, hencode]
  rfl

/-- Settles O39: the generic load of the immediate, and the destination's place in the operand table. -/
theorem loadByteImmediate : Obligations.LoadByteImmediate := by
  refine ⟨fun i r n s hterm => ?_, fun n s => ⟨?_, rfl⟩⟩
  · obtain ⟨x, hx, -, -⟩ := exists_operandOf_of_load hterm List.mem_cons_self
    refine ⟨?_, x, hx, encode_of_load_register8_data8 hterm hx⟩
    rw [exec_of_load hterm, opLoad_register8_data8, State.setReg8_fetched]
    rfl
  · rw [exec_of_load (i := .ldIndHL_d8 n) rfl, opLoad_hl_data8, State.reg16_fetched, State.writeByte_fetched]
    rfl

/-! ## Word immediates, and A through an address -/

/-- Settles O40: a pair takes the immediate's two halves. -/
theorem loadWordImmediate : Obligations.LoadWordImmediate := by
  intro nn s
  rw [← loByte_eq_setWidth]
  exact ⟨rfl, rfl, rfl, rfl⟩

/-- A is stored at a memory slot's address. -/
theorem opLoad_mem_a {s : State} {dst : Slot} {x : Word} (h : effAddr s dst = some x) :
    opLoad s dst (.register8 .a) = s.writeByte x s.a := by
  unfold opLoad
  rw [writeSlot_of_effAddr h, ← loByte_eq_setWidth]
  exact congrArg (s.writeByte x) (loByte_setWidth s.a)

/-- A is loaded from a memory slot's address. -/
theorem opLoad_a_mem {s : State} {src : Slot} {x : Word} (h : effAddr s src = some x) :
    opLoad s (.register8 .a) src = s.setA (s.readByte x) := by
  unfold opLoad
  rw [readSlot_of_effAddr h]
  exact congrArg s.setA (loByte_setWidth _)

theorem exec_store_a {i : Instr} (dst : Slot) (h : i.term = .load dst (.register8 .a)) {len : Nat} (hlen : i.length = len) (s : State)
    {x : Word} (hx : effAddr (s.fetched len) dst = some x) :
    exec i s = .next { s.writeByte x s.a with pc := s.pc + BitVec.ofNat 16 len } := by
  subst hlen
  rw [exec_of_load h, ← h]
  exact congrArg Host.Outcome.next (opLoad_mem_a hx)

theorem exec_load_a {i : Instr} (src : Slot) (h : i.term = .load (.register8 .a) src) {len : Nat} (hlen : i.length = len) (s : State)
    {x : Word} (hx : effAddr (s.fetched len) src = some x) :
    exec i s = .next { s with a := s.readByte x, pc := s.pc + BitVec.ofNat 16 len } := by
  subst hlen
  rw [exec_of_load h, ← h]
  exact congrArg Host.Outcome.next (opLoad_a_mem hx)

/-- Settles O41: the effective addresses are BC and DE. -/
theorem loadAndStoreThroughBcAndDe : Obligations.LoadAndStoreThroughBcAndDe := by
  intro s
  have hbc : effAddr (s.fetched 1) (.addrRegister .bc) = some (s.reg16 .bc) := rfl
  have hde : effAddr (s.fetched 1) (.addrRegister .de) = some (s.reg16 .de) := rfl
  exact ⟨exec_store_a _ rfl rfl s hbc, exec_store_a _ rfl rfl s hde, exec_load_a _ rfl rfl s hbc, exec_load_a _ rfl rfl s hde⟩

/-- Settles O43: the effective addresses are 0xFF00 and the immediate or C. -/
theorem highMemoryLoadsAndStores : Obligations.HighMemoryLoadsAndStores := by
  intro n s
  have hn : effAddr (s.fetched 2) (.addr8 n) = some (0xFF00 + n.setWidth 16) := rfl
  have hc : effAddr (s.fetched 1) (.addrRegister .c) = some (0xFF00 + s.c.setWidth 16) := rfl
  exact ⟨exec_store_a _ rfl rfl s hn, exec_load_a _ rfl rfl s hn, exec_store_a _ rfl rfl s hc, exec_load_a _ rfl rfl s hc⟩

/-- Settles O44: the effective address is the immediate. -/
theorem absoluteLoadsAndStores : Obligations.AbsoluteLoadsAndStores := by
  intro nn s
  have hnn : effAddr (s.fetched 3) (.addr16 nn) = some nn := rfl
  exact ⟨exec_store_a _ rfl rfl s hnn, exec_load_a _ rfl rfl s hnn⟩

/-! ## The post-updating stores -/

theorem State.reg16_hl_setReg16 (s : State) (v : Word) : (s.setReg16 .hl v).reg16 .hl = v := s.reg16_setReg16_same v nofun

theorem opLdInc_reg16_hl (s : State) (r : Reg8) : ((opLdInc s r).reg16 .hl).toNat = ((s.reg16 .hl).toNat + 1) % 65536 := by
  rw [opLdInc, State.reg16_hl_setReg16, inc16, BitVec.toNat_add]
  rfl

theorem opLdDec_reg16_hl (s : State) (r : Reg8) : ((opLdDec s r).reg16 .hl).toNat = ((s.reg16 .hl).toNat + 65535) % 65536 := by
  rw [opLdDec, State.reg16_hl_setReg16, dec16, BitVec.toNat_sub, Nat.add_comm]
  rfl

/-- Settles O42: the store is at the old HL, and HL is the old one stepped modulo 2^16. -/
theorem postUpdatingStoresStepHl : Obligations.PostUpdatingStoresStepHl := by
  intro s
  exact ⟨⟨_, exec_eq_perform (op := .ldInc .a) rfl rfl s, opLdInc_reg16_hl (s.fetched 1) .a, rfl⟩,
    ⟨_, exec_eq_perform (op := .ldDec .a) rfl rfl s, opLdDec_reg16_hl (s.fetched 1) .a, rfl⟩⟩

end Sys2Proof.Machine
end

section
/-!
Arithmetic, logic, rotation and bit test (42_arith_logic.md R200 to R214, 43_bit_rotate.md R230 to R234): each row's operation on the
post-fetch state.
-/

namespace Sys2Proof.Machine

/-! ## INC and DEC -/

/-- Settles O45: the byte forms on a register slot. -/
theorem incAndDecByteRegister : Obligations.IncAndDecByteRegister := by
  refine ⟨fun i r s hterm => ?_, fun i r s hterm => ?_⟩
  · rw [exec_eq_perform hterm (checkTerm_of_term_eq hterm nofun nofun), perform, opInc_byte rfl, readSlot8_register8,
      writeSlot8_register8, State.reg8_fetched, State.setReg8_fetched]
    rfl
  · rw [exec_eq_perform hterm (checkTerm_of_term_eq hterm nofun nofun), perform, opDec_byte rfl, readSlot8_register8,
      writeSlot8_register8, State.reg8_fetched, State.setReg8_fetched]
    rfl

/-- Settles O46: the byte forms at HL. -/
theorem incAndDecMemoryByte : Obligations.IncAndDecMemoryByte := by
  refine fun s => ⟨?_, ?_⟩
  · rw [exec_eq_perform (op := .inc (.addrRegister .hl)) rfl rfl, perform, opInc_byte rfl, readSlot8_hl, writeSlot8_hl]
    rfl
  · rw [exec_eq_perform (op := .dec (.addrRegister .hl)) rfl rfl, perform, opDec_byte rfl, readSlot8_hl, writeSlot8_hl]
    rfl

/-- Settles O47: the 16-bit forms; AF would not pass the checks. -/
theorem incAndDecRegisterPair : Obligations.IncAndDecRegisterPair := by
  refine ⟨fun i p s hterm => ?_, fun i p s hterm => ?_⟩
  · have hcheck := checkTerm_of_term_eq hterm nofun nofun
    refine ⟨ne_af_of_isForbidden (isForbidden_of_checkTerm hcheck List.mem_cons_self), ?_⟩
    rw [exec_eq_perform hterm hcheck, perform, opInc_register16, State.reg16_fetched, State.setReg16_fetched]
    rfl
  · have hcheck := checkTerm_of_term_eq hterm nofun nofun
    refine ⟨ne_af_of_isForbidden (isForbidden_of_checkTerm hcheck List.mem_cons_self), ?_⟩
    rw [exec_eq_perform hterm hcheck, perform, opDec_register16, State.reg16_fetched, State.setReg16_fetched]
    rfl

/-! ## SUB, CP and XOR -/

/-- Settles O48: one operation on the operand read from a register, from (HL) or from the immediate. -/
theorem subtractFromAccumulator : Obligations.SubtractFromAccumulator := by
  refine ⟨fun i r s hterm => ?_, fun s => ?_, fun n s => ?_⟩
  · rw [exec_eq_perform hterm (checkTerm_of_term_eq hterm nofun nofun), perform, opSub_eq, readSlot8_register8, State.reg8_fetched]
    rfl
  · rw [exec_eq_perform (op := .sub (.addrRegister .hl)) rfl rfl, perform, opSub_eq, readSlot8_hl]
    rfl
  · rw [exec_eq_perform (op := .sub (.data8 n)) rfl rfl, perform, opSub_eq, readSlot8_data8]
    rfl

/-- Settles O49: the flags of the subtraction, on the same three kinds of operand. -/
theorem compareWithAccumulator : Obligations.CompareWithAccumulator := by
  refine ⟨fun i r s hterm => ?_, fun s => ?_, fun n s => ?_⟩
  · rw [exec_eq_perform hterm (checkTerm_of_term_eq hterm nofun nofun), perform, opCp_eq, readSlot8_register8, State.reg8_fetched]
    rfl
  · rw [exec_eq_perform (op := .cp (.addrRegister .hl)) rfl rfl, perform, opCp_eq, readSlot8_hl]
    rfl
  · rw [exec_eq_perform (op := .cp (.data8 n)) rfl rfl, perform, opCp_eq, readSlot8_data8]
    rfl

/-- Settles O50: the exclusive-or of the operand, and F by the launch parameter, both of whose values are spelled out. -/
theorem exclusiveOrWithAccumulator : Obligations.ExclusiveOrWithAccumulator := by
  refine ⟨fun i r s hterm => ?_, fun s => ?_, State.xorFlags_hw, fun s res => rfl⟩
  · rw [exec_eq_perform hterm (checkTerm_of_term_eq hterm nofun nofun), perform, opXor_eq, readSlot8_register8, State.reg8_fetched]
    rfl
  · rw [exec_eq_perform (op := .xor (.addrRegister .hl)) rfl rfl, perform, opXor_eq, readSlot8_hl]
    rfl

/-! ## RLA, RL and BIT -/

/-- Settles O51: the rotation of A, of a register and of the byte at HL. -/
theorem rotateLeftThroughCarry : Obligations.RotateLeftThroughCarry := by
  refine ⟨fun s => ?_, fun i r s hterm => ?_, fun s => ?_⟩
  · rw [exec_eq_perform (op := .rla) rfl rfl, perform, opRla_eq]
    rfl
  · rw [exec_eq_perform hterm (checkTerm_of_term_eq hterm nofun nofun), perform, opRl_eq, readSlot8_register8, writeSlot8_register8,
      State.reg8_fetched, State.setReg8_fetched]
    rfl
  · rw [exec_eq_perform (op := .rl (.addrRegister .hl)) rfl rfl, perform, opRl_eq, readSlot8_hl, writeSlot8_hl]
    rfl

/-- Settles O52: Z from the operand's bit, for a register and for the byte at HL. -/
theorem bitTestSetsZeroToTheComplement : Obligations.BitTestSetsZeroToTheComplement := by
  refine ⟨fun i n r s hterm => ?_, fun i n s hterm => ?_⟩
  · rw [exec_eq_perform hterm (checkTerm_of_term_eq hterm nofun nofun), perform, opComplBit_eq, readSlot8_register8, State.reg8_fetched]
    rfl
  · rw [exec_eq_perform hterm (checkTerm_of_term_eq hterm nofun nofun), perform, opComplBit_eq, readSlot8_hl]
    rfl

end Sys2Proof.Machine
end

section
/-!
The stack and control transfer (44_stack.md R250 to R253, 45_control.md R261 to R267).
-/

namespace Sys2Proof.Machine

theorem State.setReg16_dropStack {p : Reg16} (hp : p ≠ .sp) (s : State) (v : Word) :
    s.dropStack.setReg16 p v = { s.setReg16 p v with sp := s.sp + 2 } := by
  cases p with
  | sp => exact absurd rfl hp
  | af | bc | de | hl => rfl

/-- Settles O53: the pushed word is the pair of the state before the cycle, and a popped pair is written whole. -/
theorem pushAndPopMoveAPair : Obligations.PushAndPopMoveAPair := by
  refine ⟨fun i p s hterm hp => ?_, fun i p s hterm hp => ?_⟩
  · have hcheck := checkTerm_of_term_eq hterm (fun h => hp (Opcode.push.inj h)) nofun
    rw [exec_eq_perform hterm hcheck, perform, opPush, State.reg16_fetched, State.push16, loByte_eq_setWidth]
    rfl
  · have hcheck := checkTerm_of_term_eq hterm nofun (fun h => hp (Opcode.pop.inj h))
    have hsp : p ≠ .sp := by rintro rfl; cases hcheck
    rw [exec_eq_perform hterm hcheck, perform, opPop, State.setReg16_dropStack hsp, State.setReg16_fetched]
    rfl

/-- Settles O54: the two forms take their failure at the instruction. -/
theorem afStackFormsFault : Obligations.AfStackFormsFault := fun s => ⟨exec_pushAF s, exec_popAF s⟩

/-- Settles O56: HALT on the post-fetch state. -/
theorem haltStopsTheCore : Obligations.HaltStopsTheCore := exec_halt

/-- R262 as integer arithmetic: the sum wraps once, at the end. -/
theorem relTarget_eq_ofInt (pc : Word) (e : Byte) : relTarget (pc + 2) e = BitVec.ofInt 16 ((pc.toNat : Int) + 2 + e.toInt) := by
  rw [relTarget_eq_add_ofInt, BitVec.ofInt_add, BitVec.ofInt_add, BitVec.ofInt_natCast, BitVec.ofNat_toNat, BitVec.setWidth_eq]
  rfl

/-- Settles O57: the jump from the post-fetch PC, taken by Z of the state before. -/
theorem relativeJumps : Obligations.RelativeJumps := by
  intro e s
  rw [← relTarget_eq_ofInt]
  refine ⟨?_, ?_, ?_⟩
  · rw [exec_eq_perform (op := .jumpRMemOffset e) rfl rfl]
    rfl
  · rw [exec_eq_perform (op := .jumpRNZMemOffset e) rfl rfl, perform_jumpRNZMemOffset]
    rfl
  · rw [exec_eq_perform (op := .jumpRZMemOffset e) rfl rfl, perform_jumpRZMemOffset]
    rfl

/-- Settles O58: CALL pushes the post-fetch PC, and RET takes PC from the top of the stack. -/
theorem callAndReturn : Obligations.CallAndReturn := by
  refine ⟨fun nn s => ?_, fun s => ?_⟩
  · rw [exec_eq_perform (op := .call nn) rfl rfl, perform, opCall, State.push16, loByte_eq_setWidth]
    rfl
  · rw [exec_eq_perform (op := .ret) rfl rfl]
    rfl

end Sys2Proof.Machine
end
